-- ==== Sys2Proof/Word.lean ====
section
/-! DEFINITION. The byte, the frame and the payload of CORE (00_scope R11, R12), and their plainest assembly. -/

namespace Sys2Proof

/-- A byte of the serial streams, the spec's `u8` (R11). -/
abbrev Byte := BitVec 8

/-- A frame: a sequence of exactly 12 bytes, byte 0 first on the wire (R12, R50, R75). -/
abbrev Frame := Vector Byte 12

/-- The eight payload bytes of a command frame, frame offsets 4 to 11 (R76). -/
abbrev Payload := Vector Byte 8

/-- The frame whose bytes are a list of exactly twelve bytes. -/
def Frame.ofList (l : List Byte) (h : l.length = 12) : Frame := ⟨l.toArray, by simpa using h⟩

/-- The low `k` bytes of a number, least significant byte first. -/
def bytesLE : Nat → Nat → List Byte
  | 0, _ => []
  | k + 1, w => BitVec.ofNat 8 w :: bytesLE k (w / 256)

end Sys2Proof
end

