-- ==== Sys2Proof/Syntax.lean ====
section
/-! DEFINITION. The operations of CORE as syntax: one constructor for each row of spec/opcode_table.json. -/

namespace Sys2Proof

/-- The three priority tiers of the outbound queue (R18, R21). -/
inductive Tier where
  | high
  | mid
  | low
deriving DecidableEq, Repr

/-- The direction in which a whole frame crosses CORE's serial boundary (DESIGN CHOICE, entry 4):
inbound from the source, outbound to the sink. -/
inductive Way where
  | inbound
  | outbound
deriving DecidableEq, Repr

/-- Who performs an operation (R60, R219: roles of the environment, not modes of CORE). -/
inductive Agent where
  | submitter
  | timer
  | scheduler
  | transmitter
  | source
  | observer
  | platform
deriving DecidableEq, Repr

/-- Why a record of the schedule names no operation. Each is safe: the model stops. -/
inductive DecodeError where
  /-- The record has fewer bytes than its form needs. -/
  | truncated
  /-- The record's first byte selects no port and is no sync byte (entry 2). -/
  | unknownPort (tag : Byte)
  /-- The strobe bits are not a pattern of the opcode table for that port (R87, entry 2). -/
  | notStrobed (tag : Byte)
  /-- `sub_kind` 101, 110 or 111 (R91: a model refuses it). -/
  | reservedKind (op : Byte)
  /-- `sub_tier` 11 (R92: a model refuses it). -/
  | reservedTier (op : Byte)
  /-- The twelve bytes match no FRAME row of the table for that direction (R81). -/
  | noFrameRow
deriving DecidableEq, Repr

/-- The rows of spec/opcode_table.json, in the table's order. -/
inductive Instr where
  /-- SUBMIT.RAW (R136): a whole frame, carried verbatim. -/
  | submitRaw (tier : Tier) (frame : Frame)
  /-- SUBMIT.ENC (R137): a command id and eight payload bytes. -/
  | submitEnc (tier : Tier) (cmdId : Byte) (payload : Payload)
  /-- SUBMIT.VEL (R138): a binary32 pattern. -/
  | submitVel (tier : Tier) (w : BitVec 32)
  /-- SUBMIT.ANG (R139): a binary32 pattern. -/
  | submitAng (tier : Tier) (w : BitVec 32)
  /-- SUBMIT.ROT (R140): a mode byte. -/
  | submitRot (tier : Tier) (mode : Byte)
  /-- RESET (R190). -/
  | reset
  /-- CLRERR (R191): the flags to clear. -/
  | clrerr (mask : Byte)
  /-- RXB (R170): one received byte. -/
  | rxb (b : Byte)
  /-- RXE (R176): an empty read. -/
  | rxe
  /-- TXB (R155): one byte to the sink. -/
  | txb
  /-- CLK (R150): one clock of the tick timer. -/
  | clk
  /-- TICK (R151): a tick fires, untimed view. -/
  | tick
  /-- SCHED (R153): the scheduler services the pending tick. -/
  | sched
  /-- CMD (R76): a command frame with stored checksum `cs` crosses the serial boundary. -/
  | cmd (way : Way) (cmdId cs : Byte) (payload : Payload)
  /-- CMD.VELOCITY (R77). -/
  | cmdVelocity (way : Way) (cs : Byte) (w : BitVec 32)
  /-- CMD.ANGLE (R77). -/
  | cmdAngle (way : Way) (cs : Byte) (w : BitVec 32)
  /-- CMD.ROTATE (R78). -/
  | cmdRotate (way : Way) (cs mode : Byte)
  /-- TLM (R79): a telemetry frame arrives; bytes 1, 4 to 7, 10 and 11 may be anything (R94). -/
  | tlm (cls cs u4 u5 u6 u7 : Byte) (angle : BitVec 16) (u10 u11 : Byte)
deriving DecidableEq, Repr

/-- The agent that performs an operation (R60, R45). An outbound frame is a tick, its service and
twelve bytes to the sink, all of the timer context (R99, R219); an inbound one is the source's. -/
def Instr.agent : Instr → Agent
  | .submitRaw _ _ => .submitter
  | .submitEnc _ _ _ => .submitter
  | .submitVel _ _ => .submitter
  | .submitAng _ _ => .submitter
  | .submitRot _ _ => .submitter
  | .reset => .platform
  | .clrerr _ => .observer
  | .rxb _ => .source
  | .rxe => .source
  | .txb => .transmitter
  | .clk => .timer
  | .tick => .timer
  | .sched => .scheduler
  | .cmd .inbound _ _ _ => .source
  | .cmd .outbound _ _ _ => .timer
  | .cmdVelocity .inbound _ _ => .source
  | .cmdVelocity .outbound _ _ => .timer
  | .cmdAngle .inbound _ _ => .source
  | .cmdAngle .outbound _ _ => .timer
  | .cmdRotate .inbound _ _ => .source
  | .cmdRotate .outbound _ _ => .timer
  | .tlm _ _ _ _ _ _ _ _ _ => .source

end Sys2Proof
end

