-- ==== Sys2Proof/Config.lean ====
section
/-! DEFINITION. The parameters of R8 (tables A and B) and the free values. -/

namespace Sys2Proof

/-- The policy and timing parameters a CORE instance fixes (R8 table B, R10). The operations of
Machine/Ops.lean are written for every value of it. -/
structure Cfg where
  capHigh : Nat
  capMid : Nat
  capLow : Nat
  tickDiv : Nat
deriving DecidableEq, Repr

/-- The capacity of a tier, `Cfg.CAP_t` (R8). -/
def Cfg.cap (c : Cfg) : Tier → Nat
  | .high => c.capHigh
  | .mid => c.capMid
  | .low => c.capLow

/-- The constraints of R9: every capacity and TICK_DIV are at least 1. -/
structure Cfg.Valid (c : Cfg) : Prop where
  cap_pos : ∀ t, 1 ≤ c.cap t
  tickDiv_pos : 1 ≤ c.tickDiv

namespace Config

/-! Table A of R8, the constants of the wire format. -/

abbrev frameLen : Nat := 12
abbrev sync : Byte := 0x99
abbrev classTlm : Byte := 0x01
abbrev classCmd : Byte := 0x02
abbrev csumOff : Nat := 3
abbrev cmdOff : Nat := 2
abbrev payOff : Nat := 4
abbrev payLen : Nat := 8
abbrev rxMarkOff : Nat := 2
abbrev rxMark : Byte := 0x01
abbrev angLoOff : Nat := 8
abbrev angHiOff : Nat := 9
abbrev cmdVelocity : Byte := 0x0E
abbrev cmdAngle : Byte := 0x0F
abbrev cmdRotate : Byte := 0x10

/-! Table B of R8. The timing figures in microseconds and bits per second are read by no rule (R250). -/

abbrev tTickMicros : Nat := 2000
abbrev tRxSleepMicros : Nat := 100
abbrev baud : Nat := 115200

/-- TICK_DIV less 1, the reload value of the tick timer. Open in the spec (R8, 92 D10): any natural
number, so that TICK_DIV is at least 1 (R9). DESIGN CHOICE, entry 7; safe. -/
opaque tickReload : Nat

/-- TICK_DIV (R8). -/
def tickDiv : Nat := tickReload + 1

/-- CLK_HZ (R8), tied to TICK_DIV by TICK_DIV = T_TICK x CLK_HZ. -/
def clkHz : Nat := tickDiv * 500

/-- The configuration of the machine: the reference capacities 3, 5, 10 (R8; entry 6) and the open TICK_DIV. -/
def cfg : Cfg := { capHigh := 3, capMid := 5, capLow := 10, tickDiv := tickDiv }

/-- `tx_frame` after RESET: "its value is unspecified" (R190, V1). Free value, entry 8; safe. -/
opaque freeFrame : Nat → Frame

/-- `tx_data` while `tx_valid = 0`: "otherwise unspecified" (R37, V2). Free value, entry 9; safe. -/
opaque idleTxData : Nat → Byte

end Config

end Sys2Proof
end

