-- ==== Sys2Proof/Machine/Operands.lean ====
section
/-! DEFINITION. The operand forms: multi-byte fields, the packing of `sub_data`, and the frame layouts of R76 to R79. -/

namespace Sys2Proof.Machine

/-- `f32le` (R108, R51): the four bytes of a binary32 pattern, least significant first. -/
def f32le (w : BitVec 32) : List Byte :=
  [w.extractLsb' 0 8, w.extractLsb' 8 8, w.extractLsb' 16 8, w.extractLsb' 24 8]

/-- The 32-bit pattern of four bytes, least significant first; the inverse of `f32le`. -/
def le32 (b0 b1 b2 b3 : Byte) : BitVec 32 := b3 ++ b2 ++ b1 ++ b0

/-- `s16(lo, hi)` (R11): the 16-bit pattern `hi * 256 + lo`; its signed value is `BitVec.toInt`. -/
def s16 (lo hi : Byte) : BitVec 16 := hi ++ lo

/-- The byte at bits 7:0 of a 16-bit field, at the lower offset (R52). -/
def lo16 (n : BitVec 16) : Byte := n.extractLsb' 0 8

/-- The byte at bits 15:8 of a 16-bit field, at the higher offset (R52). -/
def hi16 (n : BitVec 16) : Byte := n.extractLsb' 8 8

/-- The payload of a velocity or angle command: the pattern little-endian, then four zeros (R77, R109, R110). -/
def f32Payload (w : BitVec 32) : Payload :=
  #v[w.extractLsb' 0 8, w.extractLsb' 8 8, w.extractLsb' 16 8, w.extractLsb' 24 8, 0, 0, 0, 0]

/-- The payload of a rotate-mode command: the mode byte, then seven zeros (R78, R111). -/
def modePayload (mode : Byte) : Payload := #v[mode, 0, 0, 0, 0, 0, 0, 0]

/-- The layout of a command frame with `cs` stored at the checksum's offset (R76). -/
def cmdFrame (cmdId cs : Byte) (p : Payload) : Frame :=
  #v[Config.sync, Config.classCmd, cmdId, cs, p[0], p[1], p[2], p[3], p[4], p[5], p[6], p[7]]

/-- The layout of a telemetry frame with `cs` stored at the checksum's offset (R79). -/
def tlmFrame (cls cs u4 u5 u6 u7 : Byte) (angle : BitVec 16) (u10 u11 : Byte) : Frame :=
  #v[Config.sync, cls, Config.rxMark, cs, u4, u5, u6, u7, lo16 angle, hi16 angle, u10, u11]

/-- A frame on the 96-bit bus: byte i in bits 8i+7:8i (R81, R86). -/
def Frame.toBus (f : Frame) : BitVec 96 :=
  f[11] ++ f[10] ++ f[9] ++ f[8] ++ f[7] ++ f[6] ++ f[5] ++ f[4] ++ f[3] ++ f[2] ++ f[1] ++ f[0]

/-- The twelve bytes of the 96-bit bus, bits 7:0 first (R81, R86). -/
def busBytes (d : BitVec 96) : List Byte :=
  [d.extractLsb' 0 8, d.extractLsb' 8 8, d.extractLsb' 16 8, d.extractLsb' 24 8, d.extractLsb' 32 8,
   d.extractLsb' 40 8, d.extractLsb' 48 8, d.extractLsb' 56 8, d.extractLsb' 64 8, d.extractLsb' 72 8,
   d.extractLsb' 80 8, d.extractLsb' 88 8]

end Sys2Proof.Machine
end

