-- ==== Sys2Proof/WellFormed.lean ====
section
/-! DEFINITION. Which terms of `Instr` are the name of their own record. Only the generic CMD row overlaps
others of the table (entry 5), so only `cmd` has checks. -/

namespace Sys2Proof

/-- The payload of a velocity or angle frame: bytes 4 to 7 zero (R77). -/
def Payload.floatShaped (p : Payload) : Bool :=
  p[4] == 0 && p[5] == 0 && p[6] == 0 && p[7] == 0

/-- The payload of a rotate-mode frame: bytes 1 to 7 zero (R78). -/
def Payload.modeShaped (p : Payload) : Bool :=
  p[1] == 0 && p[2] == 0 && p[3] == 0 && p.floatShaped

/-- An instruction that is the most specific row its record matches: a `cmd` is not a velocity, angle
or rotate-mode frame, and inbound it does not hold the telemetry marker, which the receiver takes
for telemetry (R93, R94). -/
def Instr.wellFormed : Instr → Bool
  | .submitRaw _ _ => true
  | .submitEnc _ _ _ => true
  | .submitVel _ _ => true
  | .submitAng _ _ => true
  | .submitRot _ _ => true
  | .reset => true
  | .clrerr _ => true
  | .rxb _ => true
  | .rxe => true
  | .txb => true
  | .clk => true
  | .tick => true
  | .sched => true
  | .cmd way cmdId _ p =>
    !(cmdId == Config.cmdVelocity && p.floatShaped) && !(cmdId == Config.cmdAngle && p.floatShaped) &&
      !(cmdId == Config.cmdRotate && p.modeShaped) && !(way == .inbound && cmdId == Config.rxMark)
  | .cmdVelocity _ _ _ => true
  | .cmdAngle _ _ _ => true
  | .cmdRotate _ _ _ => true
  | .tlm _ _ _ _ _ _ _ _ _ => true

end Sys2Proof
end

