-- ==== Sys2Proof/Decode.lean ====
section
/-! DEFINITION. The decoder from a record of the schedule to an operation, then the encoder, both written from
R76 to R87. A record is the bytes one operation presents at a port: the submit opcode and `sub_data` (R84 to
R86), a port number with its strobe bits and operand (R87), or a frame in wire order (R81). The tag bytes 0x20
to 0x3F and 0x40 are the model's (DESIGN CHOICE, entry 2). -/

namespace Sys2Proof

open Machine

/-- The `sub_tier` code (R85). -/
def tierOf (code : BitVec 2) : Option Tier :=
  if code = 0 then some .high else if code = 1 then some .mid else if code = 2 then some .low else none

/-- The `sub_tier` code of a tier (R85). -/
def tierCode : Tier → BitVec 2
  | .high => 0
  | .mid => 1
  | .low => 2

/-- A submission: the opcode `{sub_kind, sub_tier}` in bits 4:0 of `op` and the twelve bytes of `sub_data`
(R84 to R86); operand bits that R86 does not list are ignored, reserved codes refused (R91, R92). -/
def decodeSubmit (op : Byte) : List Byte → Except DecodeError Instr
  | d0 :: d1 :: d2 :: d3 :: d4 :: d5 :: d6 :: d7 :: d8 :: d9 :: d10 :: d11 :: _ =>
    let kind := op.extractLsb' 2 3
    if 5 ≤ kind.toNat then .error (.reservedKind op) else
    match tierOf (op.extractLsb' 0 2) with
    | none => .error (.reservedTier op)
    | some t =>
      if kind = 0 then .ok (.submitRaw t #v[d0, d1, d2, d3, d4, d5, d6, d7, d8, d9, d10, d11])
      else if kind = 1 then .ok (.submitEnc t d0 #v[d1, d2, d3, d4, d5, d6, d7, d8])
      else if kind = 2 then .ok (.submitVel t (le32 d0 d1 d2 d3))
      else if kind = 3 then .ok (.submitAng t (le32 d0 d1 d2 d3))
      else .ok (.submitRot t d0)
  | _ => .error .truncated

/-- A strobe: tag 001pppss holds the model's port number p and the strobe bits s of the opcode table
(R87: port 0 rst, 1 clr_valid, 2 rx_valid, 3 tx_valid and tx_ready, 4 clk, 5 the timer's expiry, 6 the
scheduler's two conditions), and the next byte the operand of CLRERR and RXB. -/
def decodeStrobe (tag : Byte) (rest : List Byte) : Except DecodeError Instr :=
  let port := tag.extractLsb' 2 3
  let bits := tag.extractLsb' 0 2
  if port = 0 ∧ bits = 1 then .ok .reset
  else if port = 1 ∧ bits = 1 then
    match rest with
    | mask :: _ => .ok (.clrerr mask)
    | [] => .error .truncated
  else if port = 2 ∧ bits = 1 then
    match rest with
    | b :: _ => .ok (.rxb b)
    | [] => .error .truncated
  else if port = 2 ∧ bits = 0 then .ok .rxe
  else if port = 3 ∧ bits = 3 then .ok .txb
  else if port = 4 ∧ bits = 1 then .ok .clk
  else if port = 5 ∧ bits = 1 then .ok .tick
  else if port = 6 ∧ bits = 3 then .ok .sched
  else .error (.notStrobed tag)

/-- A whole frame in wire order (R81): the most specific row of the table that it matches (entry 5). -/
def decodeWire (way : Way) : List Byte → Except DecodeError Instr
  | f0 :: f1 :: f2 :: f3 :: f4 :: f5 :: f6 :: f7 :: f8 :: f9 :: f10 :: f11 :: _ =>
    if f0 ≠ Config.sync then .error .noFrameRow
    else if f1 = Config.classCmd ∧ f2 = Config.cmdVelocity ∧ f8 = 0 ∧ f9 = 0 ∧ f10 = 0 ∧ f11 = 0 then
      .ok (.cmdVelocity way f3 (le32 f4 f5 f6 f7))
    else if f1 = Config.classCmd ∧ f2 = Config.cmdAngle ∧ f8 = 0 ∧ f9 = 0 ∧ f10 = 0 ∧ f11 = 0 then
      .ok (.cmdAngle way f3 (le32 f4 f5 f6 f7))
    else if f1 = Config.classCmd ∧ f2 = Config.cmdRotate ∧ f5 = 0 ∧ f6 = 0 ∧ f7 = 0 ∧ f8 = 0 ∧ f9 = 0 ∧ f10 = 0 ∧ f11 = 0 then
      .ok (.cmdRotate way f3 f4)
    else if way = .inbound ∧ f2 = Config.rxMark then
      .ok (.tlm f1 f3 f4 f5 f6 f7 (s16 f8 f9) f10 f11)
    else if f1 = Config.classCmd then
      .ok (.cmd way f2 f3 #v[f4, f5, f6, f7, f8, f9, f10, f11])
    else .error .noFrameRow
  | _ => .error .truncated

/-- The decoder, total on any record. Bytes after the ones a form needs are ignored. -/
def decode : List Byte → Except DecodeError Instr
  | [] => .error .truncated
  | tag :: rest =>
    if tag.toNat < 0x20 then decodeSubmit tag rest
    else if tag.toNat < 0x40 then decodeStrobe tag rest
    else if tag = 0x40 then decodeWire .outbound rest
    else if tag = Config.sync then decodeWire .inbound (tag :: rest)
    else .error (.unknownPort tag)

/-- The submit opcode byte `{000, sub_kind, sub_tier}` (R84). -/
def submitOp (kind : BitVec 3) (t : Tier) : Byte := (0 : BitVec 3) ++ kind ++ tierCode t

/-- The record of a frame event: the frame itself inbound, after the tag 0x40 outbound (entry 2). -/
def wireRecord (way : Way) (f : Frame) : List Byte :=
  match way with
  | .inbound => f.toList
  | .outbound => 0x40 :: f.toList

/-- The encoder: the record of an operation, from the same tables (R76 to R87). -/
def encode : Instr → List Byte
  | .submitRaw t f => submitOp 0 t :: f.toList
  | .submitEnc t cmdId p => submitOp 1 t :: cmdId :: p.toList ++ [0, 0, 0]
  | .submitVel t w => submitOp 2 t :: f32le w ++ [0, 0, 0, 0, 0, 0, 0, 0]
  | .submitAng t w => submitOp 3 t :: f32le w ++ [0, 0, 0, 0, 0, 0, 0, 0]
  | .submitRot t mode => [submitOp 4 t, mode, 0, 0, 0, 0, 0, 0, 0, 0, 0, 0, 0]
  | .reset => [0x21]
  | .clrerr mask => [0x25, mask]
  | .rxb b => [0x29, b]
  | .rxe => [0x28]
  | .txb => [0x2F]
  | .clk => [0x31]
  | .tick => [0x35]
  | .sched => [0x3B]
  | .cmd way cmdId cs p => wireRecord way (cmdFrame cmdId cs p)
  | .cmdVelocity way cs w => wireRecord way (cmdFrame Config.cmdVelocity cs (f32Payload w))
  | .cmdAngle way cs w => wireRecord way (cmdFrame Config.cmdAngle cs (f32Payload w))
  | .cmdRotate way cs mode => wireRecord way (cmdFrame Config.cmdRotate cs (modePayload mode))
  | .tlm cls cs u4 u5 u6 u7 angle u10 u11 =>
    wireRecord .inbound (tlmFrame cls cs u4 u5 u6 u7 angle u10 u11)

/-- A FRAME row of spec/opcode_table.json: `match` and `mask` in wire order (R81). -/
structure FrameRow where
  mnemonic : String
  pattern : Frame
  mask : Frame
deriving DecidableEq, Repr

/-- `f` matches a row when `(f[i] AND mask[i]) = match[i]` for every i (R81). -/
def FrameRow.fits (r : FrameRow) (f : Frame) : Bool :=
  List.zipWith (fun b m => b &&& m) f.toList r.mask.toList == r.pattern.toList

/-- The table's FRAME rows, digit for digit. -/
def frameRows : List FrameRow :=
  [ { mnemonic := "CMD"
      pattern := #v[0x99, 0x02, 0x00, 0x00, 0x00, 0x00, 0x00, 0x00, 0x00, 0x00, 0x00, 0x00]
      mask := #v[0xFF, 0xFF, 0x00, 0x00, 0x00, 0x00, 0x00, 0x00, 0x00, 0x00, 0x00, 0x00] },
    { mnemonic := "CMD.VELOCITY"
      pattern := #v[0x99, 0x02, 0x0E, 0x00, 0x00, 0x00, 0x00, 0x00, 0x00, 0x00, 0x00, 0x00]
      mask := #v[0xFF, 0xFF, 0xFF, 0x00, 0x00, 0x00, 0x00, 0x00, 0xFF, 0xFF, 0xFF, 0xFF] },
    { mnemonic := "CMD.ANGLE"
      pattern := #v[0x99, 0x02, 0x0F, 0x00, 0x00, 0x00, 0x00, 0x00, 0x00, 0x00, 0x00, 0x00]
      mask := #v[0xFF, 0xFF, 0xFF, 0x00, 0x00, 0x00, 0x00, 0x00, 0xFF, 0xFF, 0xFF, 0xFF] },
    { mnemonic := "CMD.ROTATE"
      pattern := #v[0x99, 0x02, 0x10, 0x00, 0x00, 0x00, 0x00, 0x00, 0x00, 0x00, 0x00, 0x00]
      mask := #v[0xFF, 0xFF, 0xFF, 0x00, 0x00, 0xFF, 0xFF, 0xFF, 0xFF, 0xFF, 0xFF, 0xFF] },
    { mnemonic := "TLM"
      pattern := #v[0x99, 0x00, 0x01, 0x00, 0x00, 0x00, 0x00, 0x00, 0x00, 0x00, 0x00, 0x00]
      mask := #v[0xFF, 0x00, 0xFF, 0x00, 0x00, 0x00, 0x00, 0x00, 0x00, 0x00, 0x00, 0x00] } ]

/-- The mnemonic of an instruction in spec/opcode_table.json. -/
def Instr.mnemonic : Instr → String
  | .submitRaw _ _ => "SUBMIT.RAW"
  | .submitEnc _ _ _ => "SUBMIT.ENC"
  | .submitVel _ _ => "SUBMIT.VEL"
  | .submitAng _ _ => "SUBMIT.ANG"
  | .submitRot _ _ => "SUBMIT.ROT"
  | .reset => "RESET"
  | .clrerr _ => "CLRERR"
  | .rxb _ => "RXB"
  | .rxe => "RXE"
  | .txb => "TXB"
  | .clk => "CLK"
  | .tick => "TICK"
  | .sched => "SCHED"
  | .cmd _ _ _ _ => "CMD"
  | .cmdVelocity _ _ _ => "CMD.VELOCITY"
  | .cmdAngle _ _ _ => "CMD.ANGLE"
  | .cmdRotate _ _ _ => "CMD.ROTATE"
  | .tlm _ _ _ _ _ _ _ _ _ => "TLM"

/-- The record of a word of the opcode table: its low `nbits` bits, byte 0 lowest, as 13 bytes, the
longest record. The table's STROBE words do not name their port, so as bare words they read as
submit opcodes (entry 2). -/
def tableBytes (nbits w : Nat) : List Byte := bytesLE 13 (w % 2 ^ nbits)

/-- The instruction the decoder reads from the opcode table's word `w` of `nbits` bits. -/
def decodeTableWord (nbits w : Nat) : Option Instr :=
  match decode (tableBytes nbits w) with
  | .ok i => some i
  | .error _ => none

end Sys2Proof
end

