-- ==== Sys2Proof/Machine/State.lean ====
section
/-! DEFINITION. The state record of R20, its output pulses (R39, R40), the observation traces (R33), the
schedule, the reasons a step stops, and the reset state (R44). -/

namespace Sys2Proof.Machine

/-- The synchronizer's state (R27). -/
inductive RxState where
  | idle
  | syncing
deriving DecidableEq, Repr

/-- The error of the standalone `decode` function (R100, R113). -/
inductive FrameError where
  | checksumMismatch
  | framingDesync
deriving DecidableEq, Repr

/-- The five errors of the taxonomy, as diagnostic events (R200). CORE never raises the last two (R205, R206). -/
inductive Diag where
  | checksumMismatch
  | framingDesync
  | queueOverflow (t : Tier)
  | portOpenFailure
  | partialWrite
deriving DecidableEq, Repr

/-- Why the machine stops with no next state. No error of the spec stops CORE (R207): these are the events a
schedule names at a moment when they do not occur. -/
inductive Fault where
  /-- TXB presented while `tx_idx` is not below 12: "not enabled: no step" (R155, V-T12). Raised by TXB. Safe. -/
  | txbNotEnabled
  /-- SCHED presented while no tick is pending or a frame is in flight: "not enabled: no step" (R153, V-T8,
  V-T9). Raised by SCHED. Safe. -/
  | schedNotEnabled
  /-- An outbound frame presented that is not the frame CORE would send at this tick: a frame is in flight, or
  the head of the highest non-empty tier is another frame (R132, R157). Raised by the outbound CMD rows
  (entry 4). Safe. -/
  | frameNotNext
deriving DecidableEq, Repr

/-- Why an input has no meaning in the model. -/
inductive Refusal where
  /-- An instruction of the opcode table without a meaning; raised by no arm now. Safe. -/
  | notModelled (mnemonic : String)
  /-- A record of the schedule that names no operation, with the decoder's reason; raised by step. Safe. -/
  | undecodable (why : DecodeError)
deriving DecidableEq, Repr

/-- Everything the spec gives the machine, with the traces and the model's own `events` and `freeCnt`. -/
structure State where
  /-- `q[High]` (R21). -/
  qHigh : List Frame
  /-- `q[Mid]` (R21). -/
  qMid : List Frame
  /-- `q[Low]` (R21). -/
  qLow : List Frame
  /-- `tick_cnt` (R23). -/
  tickCnt : Nat
  /-- `tick_pend` (R24). -/
  tickPend : Bool
  /-- `tx_frame` (R25). -/
  txFrame : Frame
  /-- `tx_idx` (R26). -/
  txIdx : Nat
  /-- `rx_state` (R27). -/
  rxState : RxState
  /-- `rx_buf` (R27). -/
  rxBuf : List Byte
  /-- `tlm_raw` (R30). -/
  tlmRaw : BitVec 16
  /-- `err_flags` (R29). -/
  errFlags : BitVec 8
  /-- `tlm_valid` (R39). -/
  tlmValid : Bool
  /-- `diag_chk` (R40). -/
  diagChk : Bool
  /-- `diag_dsy` (R40). -/
  diagDsy : Bool
  /-- `diag_ovf[2:0]` (R40). -/
  diagOvf : BitVec 3
  /-- The trace `tx_out` (R33). -/
  txOut : List Byte
  /-- The trace `tlm_out` of i16 values (R33). -/
  tlmOut : List (BitVec 16)
  /-- The trace `diag_out` (R33). -/
  diagOut : List Diag
  /-- The model's own: the records still to be presented at the ports, in order (R34, R60; entry 1). -/
  events : List (List Byte)
  /-- The model's own: the index of the free values, advanced by step and at each edge of EdgeStep (entry 19). -/
  freeCnt : Nat
deriving DecidableEq, Repr

/-- The machine right after reset with empty traces and nothing presented (R44). `tx_frame` holds twelve
zero bytes, which R44 permits (DESIGN CHOICE, entry 8); `events` and `freeCnt` are the model's (entries 1, 19). -/
def State.reset : State where
  qHigh := []
  qMid := []
  qLow := []
  tickCnt := Config.tickDiv - 1
  tickPend := false
  txFrame := #v[0, 0, 0, 0, 0, 0, 0, 0, 0, 0, 0, 0]
  txIdx := 12
  rxState := .idle
  rxBuf := []
  tlmRaw := 0
  errFlags := 0
  tlmValid := false
  diagChk := false
  diagDsy := false
  diagOvf := 0
  txOut := []
  tlmOut := []
  diagOut := []
  events := []
  freeCnt := 0

end Sys2Proof.Machine
end

