-- ==== Sys2Proof/Machine/Codec.lean ====
section
/-! DEFINITION. FCG, the frame checksum generator and codec functions (40_frame_codec). Pure: none reads or
writes state. -/

namespace Sys2Proof.Machine

/-- `csum(f)` (R105): the eleven bytes other than offset 3 added modulo 256, carries discarded. -/
def csum (f : Frame) : Byte :=
  f[0] + f[1] + f[2] + f[4] + f[5] + f[6] + f[7] + f[8] + f[9] + f[10] + f[11]

/-- `csum_ok(f)` (R106). -/
def csumOk (f : Frame) : Bool := csum f == f[Config.csumOff]

/-- `encode(cmd_id, payload)` (R107): the layout with a zero placeholder, then the checksum filled in (R83). -/
def frameEncode (cmdId : Byte) (p : Payload) : Frame :=
  (cmdFrame cmdId 0 p).set Config.csumOff (csum (cmdFrame cmdId 0 p))

/-- `build_vel(w)` (R109). -/
def buildVel (w : BitVec 32) : Frame := frameEncode Config.cmdVelocity (f32Payload w)

/-- `build_ang(w)` (R110). -/
def buildAng (w : BitVec 32) : Frame := frameEncode Config.cmdAngle (f32Payload w)

/-- `build_rot(mode)` (R111). -/
def buildRot (mode : Byte) : Frame := frameEncode Config.cmdRotate (modePayload mode)

/-- `decode(f)` (R113): sync byte, marker, checksum, in that order; the first failure decides. The value is
the raw i16 pattern. -/
def frameDecode (f : Frame) : Except FrameError (BitVec 16) :=
  if f[0] ≠ Config.sync then .error .framingDesync
  else if f[Config.rxMarkOff] ≠ Config.rxMark then .error .framingDesync
  else if csum f ≠ f[Config.csumOff] then .error .checksumMismatch
  else .ok (s16 f[Config.angLoOff] f[Config.angHiOff])

/-- The diagnostic event of a decode error (R113, R200). -/
def frameErrorDiag : FrameError → Diag
  | .checksumMismatch => .checksumMismatch
  | .framingDesync => .framingDesync

/-- `angle_q15(n)` (R116): the angle in units of 2^-15 degree. -/
def angleQ15 (n : BitVec 16) : Int := n.toInt * 180

/-- `angle_f32(n)` (R117): the binary32 pattern of the angle in degrees, by integer logic. The layout of
binary32 is from general knowledge, as the spec says (G3; PRESUMED, entry 15). -/
def angleF32 (n : BitVec 16) : BitVec 32 :=
  let m := angleQ15 n
  if m = 0 then 0
  else
    let s := if m < 0 then 1 else 0
    let a := m.natAbs
    let p := Nat.log2 a
    let e := p + 112
    let frac := (a - 2 ^ p) * 2 ^ (23 - p)
    BitVec.ofNat 32 (s * 2 ^ 31 + e * 2 ^ 23 + frac)

end Sys2Proof.Machine
end

