-- ==== Sys2Proof/Machine/Flags.lean ====
section
/-! DEFINITION. The layout of `err_flags` (R29), the error codes (R200) and the one flag computation CORE has.
It has no condition codes: the checksum drops its carries (R29, R105). -/

namespace Sys2Proof.Machine

/-- The cause code of an error (R200). -/
def diagCode : Diag → Nat
  | .checksumMismatch => 1
  | .framingDesync => 2
  | .queueOverflow _ => 3
  | .portOpenFailure => 4
  | .partialWrite => 5

/-- The bit of `err_flags` that an error sets (R29, R200): CHK, DSY, OVF_H, OVF_M, OVF_L, POF, PWR. -/
def flagBit : Diag → Nat
  | .checksumMismatch => 0
  | .framingDesync => 1
  | .queueOverflow .high => 2
  | .queueOverflow .mid => 3
  | .queueOverflow .low => 4
  | .partialWrite => 5
  | .portOpenFailure => 6

/-- The bit of `diag_ovf` of a tier (R40). -/
def ovfPulseBit : Tier → Nat
  | .high => 0
  | .mid => 1
  | .low => 2

/-- The flags with that of an error set; they are sticky (R29, R201). -/
def setFlag (e : Diag) (flags : BitVec 8) : BitVec 8 := flags ||| BitVec.twoPow 8 (flagBit e)

/-- The flags with those of a mask cleared (R191). -/
def clearFlags (mask : Byte) (flags : BitVec 8) : BitVec 8 := flags &&& ~~~mask

end Sys2Proof.Machine
end

