-- ==== Sys2Proof/Machine/Ops.lean ====
section
/-! DEFINITION. The named operations over the state: raising an error (the whole of exception entry here,
R16, R201, R211), telemetry and transmit emission, the queues (R14, R130 to R132), the timer, scheduler,
transmitter and synchronizer steps, and the cycle boundary. There is no return from an error (R212). -/

namespace Sys2Proof.Machine

open Host (Outcome)

/-- `raise E(info)` (R16, R201): the sticky flag, the diagnostic event and its one-cycle pulse (R40), nothing
else. Nothing is saved and control goes nowhere (R211); the recovery is the raising rule's. -/
def raise (e : Diag) (s : State) : State :=
  { s with
    errFlags := setFlag e s.errFlags
    diagOut := s.diagOut ++ [e]
    diagChk := s.diagChk || e == .checksumMismatch
    diagDsy := s.diagDsy || e == .framingDesync
    diagOvf := match e with
      | .queueOverflow t => s.diagOvf ||| BitVec.twoPow 3 (ovfPulseBit t)
      | _ => s.diagOvf }

/-- `emit_tlm(n)` with `tlm_raw <- n` (R15, R39, R174): one telemetry event, one pulse. -/
def deliverTlm (n : BitVec 16) (s : State) : State :=
  { s with tlmRaw := n, tlmOut := s.tlmOut ++ [n], tlmValid := true }

/-- The end of a cycle for the output pulses (R39, R40: high for exactly one cycle). -/
def pulsesLow (s : State) : State :=
  { s with tlmValid := false, diagChk := false, diagDsy := false, diagOvf := 0 }

/-- The start of a cycle that leaves the records `es` to come: pulses low, the schedule advanced, a fresh
index of the free values (entries 1, 10, 19). -/
def startCycle (es : List (List Byte)) (s : State) : State :=
  { pulsesLow s with events := es, freeCnt := s.freeCnt + 1 }

/-- `st.q[t]` (R21). -/
def State.q (s : State) : Tier → List Frame
  | .high => s.qHigh
  | .mid => s.qMid
  | .low => s.qLow

/-- `st.q[t] <- l` (R14). -/
def State.setQ (s : State) : Tier → List Frame → State
  | .high, l => { s with qHigh := l }
  | .mid, l => { s with qMid := l }
  | .low, l => { s with qLow := l }

/-- `enqueue(t, f)` (R130, R131): append, or on a full tier keep only the new frame and raise the overflow. -/
def enqueue (c : Cfg) (t : Tier) (f : Frame) (s : State) : State :=
  if (s.q t).length < c.cap t then s.setQ t (s.q t ++ [f])
  else raise (.queueOverflow t) (s.setQ t [f])

/-- `dequeue_next()` (R132): the head of the highest-priority non-empty tier, removed. -/
def dequeueNext (s : State) : Option Frame × State :=
  match s.qHigh, s.qMid, s.qLow with
  | f :: r, _, _ => (some f, s.setQ .high r)
  | [], f :: r, _ => (some f, s.setQ .mid r)
  | [], [], f :: r => (some f, s.setQ .low r)
  | [], [], [] => (none, s)

/-- One clock of the tick timer (R150). -/
def clockTimer (c : Cfg) (s : State) : State :=
  if s.tickCnt = 0 then { s with tickCnt := c.tickDiv - 1, tickPend := true }
  else { s with tickCnt := s.tickCnt - 1 }

/-- A tick fires (R151); ticks do not accumulate (R24, R161). -/
def fireTick (s : State) : State := { s with tickPend := true }

/-- SCHED's enabling condition (R153). -/
def schedEnabled (s : State) : Bool := s.tickPend && s.txIdx == 12

/-- The scheduler's service of a tick (R153): at most one frame goes to the transmitter. -/
def serviceTick (s : State) : State :=
  match dequeueNext { s with tickPend := false } with
  | (some f, s') => { s' with txFrame := f, txIdx := 0 }
  | (none, s') => s'

/-- One byte handed to the sink (R155), where `tx_idx` is below 12. -/
def sendByte (s : State) (h : s.txIdx < 12) : State :=
  { s with txOut := s.txOut ++ [s.txFrame[s.txIdx]], txIdx := s.txIdx + 1 }

/-- TXB as an operation: its enabling condition, then one byte to the sink (R155). -/
def transmitByte (s : State) : Outcome State Fault Refusal :=
  if h : s.txIdx < 12 then .next (sendByte s h) else .fault .txbNotEnabled

/-- SCHED as an operation: its enabling condition, then the service (R153). A tick that fires between the load of a
frame and its first byte counts for the next one: R154's sentence on first bytes does not follow from R153 and
R155, and the model follows these (DEDUCED, entry 23). -/
def schedule (s : State) : Outcome State Fault Refusal :=
  if schedEnabled s then .next (serviceTick s) else .fault .schedNotEnabled

/-- The synchronizer's return to (`Idle`, `[]`) (R173, R174, R178). -/
def rxToIdle (s : State) : State := { s with rxState := .idle, rxBuf := [] }

/-- The verdict of the twelfth byte (R174): deliver the value, or raise the error. -/
def rxVerdict (r : Except FrameError (BitVec 16)) (s : State) : State :=
  match r with
  | .ok n => deliverTlm n s
  | .error e => raise (frameErrorDiag e) s

/-- RXB (R170): Idle hunts for the sync byte (R171); Syncing appends (R172), checks the marker at the third
byte (R173) and decodes at the twelfth (R174). A byte is never looked at twice (R175), and a sync byte in
`Syncing` is data (R177). -/
def receiveByte (b : Byte) (s : State) : State :=
  match s.rxState with
  | .idle => if b = Config.sync then { s with rxState := .syncing, rxBuf := [b] } else s
  | .syncing =>
    let buf := s.rxBuf ++ [b]
    if buf.length = 3 ∧ buf[Config.rxMarkOff]? ≠ some Config.rxMark then raise .framingDesync (rxToIdle s)
    else if h : buf.length = 12 then rxToIdle (rxVerdict (frameDecode (Frame.ofList buf h)) s)
    else { s with rxBuf := buf }

/-- Bytes received one RXB at a time, a cycle each: the pulses of a byte end with the next (R66, R98). -/
def receiveBytes (bs : List Byte) (s : State) : State :=
  bs.foldl (fun s b => receiveByte b (pulsesLow s)) s

/-- The frame `dequeue_next` would return (R132). -/
def nextFrame (s : State) : Option Frame := (dequeueNext s).1

/-- `k` TXBs, a cycle each, while a byte is left (R98, R155). -/
def transmitBytes : Nat → State → State
  | 0, s => s
  | k + 1, s => if h : (pulsesLow s).txIdx < 12 then transmitBytes k (sendByte (pulsesLow s) h) else s

/-- The document's whole tick when a frame is available: TICK; SCHED; TXB*12 (R99, R157), a cycle each. -/
def tickSend (s : State) : State :=
  transmitBytes 12 (serviceTick (pulsesLow (fireTick (pulsesLow s))))

/-- A frame crosses the serial boundary (entry 4). Inbound its twelve bytes are received in wire order (R50,
R66); outbound it is the frame this tick sends, whole (R157), and no step if CORE would not send it. -/
def wireFrame (way : Way) (f : Frame) (s : State) : Outcome State Fault Refusal :=
  match way with
  | .inbound => .next (receiveBytes f.toList s)
  | .outbound =>
    if s.txIdx = 12 ∧ nextFrame s = some f then .next (tickSend s) else .fault .frameNotNext

/-- RESET (R190). The traces stay (R33); `tx_frame` is unspecified: a free value (V1), one for each index of the free
values (DESIGN CHOICE, entries 8, 19). -/
def resetAll (c : Cfg) (s : State) : State :=
  { s with
    qHigh := []
    qMid := []
    qLow := []
    tickCnt := c.tickDiv - 1
    tickPend := false
    txFrame := Config.freeFrame s.freeCnt
    txIdx := 12
    rxState := .idle
    rxBuf := []
    tlmRaw := 0
    errFlags := 0
    tlmValid := false
    diagChk := false
    diagDsy := false
    diagOvf := 0 }

end Sys2Proof.Machine
end

