-- ==== Sys2Proof/Machine/Receive.lean ====
section
/-! DEFINITION. RXB and RXE (43_receive_synchronizer). -/

namespace Sys2Proof.Machine

open Host (Outcome)

/-- RXB (R170): always enabled. -/
def execRxb (b : Byte) (s : State) : Outcome State Fault Refusal := .next (receiveByte b s)

/-- RXE (R176): "Effect: none; every state element and every trace is unchanged." -/
def execRxe (s : State) : Outcome State Fault Refusal := .next s

end Sys2Proof.Machine
end

