-- ==== Sys2Proof/Machine/Submit.lean ====
section
/-! DEFINITION. The five SUBMIT operations (41_priority_queue R136 to R140): always enabled, one atomic step. -/

namespace Sys2Proof.Machine

open Host (Outcome)

/-- SUBMIT.RAW (R136): the frame is stored verbatim, unchecked. -/
def execSubmitRaw (t : Tier) (f : Frame) (s : State) : Outcome State Fault Refusal :=
  .next (enqueue Config.cfg t f s)

/-- SUBMIT.ENC (R137): every command id is accepted (R93). -/
def execSubmitEnc (t : Tier) (cmdId : Byte) (p : Payload) (s : State) : Outcome State Fault Refusal :=
  .next (enqueue Config.cfg t (frameEncode cmdId p) s)

/-- SUBMIT.VEL (R138). -/
def execSubmitVel (t : Tier) (w : BitVec 32) (s : State) : Outcome State Fault Refusal :=
  .next (enqueue Config.cfg t (buildVel w) s)

/-- SUBMIT.ANG (R139). -/
def execSubmitAng (t : Tier) (w : BitVec 32) (s : State) : Outcome State Fault Refusal :=
  .next (enqueue Config.cfg t (buildAng w) s)

/-- SUBMIT.ROT (R140). -/
def execSubmitRot (t : Tier) (mode : Byte) (s : State) : Outcome State Fault Refusal :=
  .next (enqueue Config.cfg t (buildRot mode) s)

end Sys2Proof.Machine
end

