-- ==== Sys2Proof/Machine/System.lean ====
section
/-! DEFINITION. RESET and CLRERR (44_system_ops). -/

namespace Sys2Proof.Machine

open Host (Outcome)

/-- RESET (R190). -/
def execReset (s : State) : Outcome State Fault Refusal := .next (resetAll Config.cfg s)

/-- CLRERR (R191): the flags of the mask are cleared, nothing else changes. -/
def execClrerr (mask : Byte) (s : State) : Outcome State Fault Refusal :=
  .next { s with errFlags := clearFlags mask s.errFlags }

end Sys2Proof.Machine
end

