-- ==== Sys2Proof/Machine/Transmit.lean ====
section
/-! DEFINITION. TXB, CLK, TICK and SCHED (42_transmit_scheduler). -/

namespace Sys2Proof.Machine

open Host (Outcome)

/-- TXB (R155): one byte of the frame in flight goes to the sink. -/
def execTxb (s : State) : Outcome State Fault Refusal := transmitByte s

/-- CLK (R150): always enabled. -/
def execClk (s : State) : Outcome State Fault Refusal := .next (clockTimer Config.cfg s)

/-- TICK (R151): always enabled. -/
def execTick (s : State) : Outcome State Fault Refusal := .next (fireTick s)

/-- SCHED (R153). -/
def execSched (s : State) : Outcome State Fault Refusal := schedule s

end Sys2Proof.Machine
end

