-- ==== Sys2Proof/Machine/Wire.lean ====
section
/-! DEFINITION. The FRAME rows of the opcode table (R76 to R79) as events: a whole frame crosses CORE's serial
boundary. That a frame row stands for this event is the model's reading (DESIGN CHOICE, entry 4). -/

namespace Sys2Proof.Machine

open Host (Outcome)

/-- CMD (R76): inbound, the echo of R94 and R249; outbound, a command frame sent whole. -/
def execCmd (way : Way) (cmdId cs : Byte) (p : Payload) (s : State) : Outcome State Fault Refusal :=
  wireFrame way (cmdFrame cmdId cs p) s

/-- CMD.VELOCITY (R77). -/
def execCmdVelocity (way : Way) (cs : Byte) (w : BitVec 32) (s : State) : Outcome State Fault Refusal :=
  wireFrame way (cmdFrame Config.cmdVelocity cs (f32Payload w)) s

/-- CMD.ANGLE (R77). -/
def execCmdAngle (way : Way) (cs : Byte) (w : BitVec 32) (s : State) : Outcome State Fault Refusal :=
  wireFrame way (cmdFrame Config.cmdAngle cs (f32Payload w)) s

/-- CMD.ROTATE (R78). -/
def execCmdRotate (way : Way) (cs mode : Byte) (s : State) : Outcome State Fault Refusal :=
  wireFrame way (cmdFrame Config.cmdRotate cs (modePayload mode)) s

/-- TLM (R79): a telemetry frame arrives; its acceptance is R113, R170. -/
def execTlm (cls cs u4 u5 u6 u7 : Byte) (angle : BitVec 16) (u10 u11 : Byte) (s : State) :
    Outcome State Fault Refusal :=
  wireFrame .inbound (tlmFrame cls cs u4 u5 u6 u7 angle u10 u11) s

end Sys2Proof.Machine
end

