-- ==== Sys2Proof/Machine/Dispatch.lean ====
section
/-! DEFINITION. The dispatch: one arm for each row of spec/opcode_table.json. -/

namespace Sys2Proof.Machine

open Host (Outcome)

def exec (i : Instr) (s : State) : Host.Outcome State Fault Refusal :=
  match i with
  | .submitRaw tier frame => Sys2Proof.Machine.execSubmitRaw tier frame s
  | .submitEnc tier cmdId payload => Sys2Proof.Machine.execSubmitEnc tier cmdId payload s
  | .submitVel tier w => Sys2Proof.Machine.execSubmitVel tier w s
  | .submitAng tier w => Sys2Proof.Machine.execSubmitAng tier w s
  | .submitRot tier mode => Sys2Proof.Machine.execSubmitRot tier mode s
  | .reset => Sys2Proof.Machine.execReset s
  | .clrerr mask => Sys2Proof.Machine.execClrerr mask s
  | .rxb b => Sys2Proof.Machine.execRxb b s
  | .rxe => Sys2Proof.Machine.execRxe s
  | .txb => Sys2Proof.Machine.execTxb s
  | .clk => Sys2Proof.Machine.execClk s
  | .tick => Sys2Proof.Machine.execTick s
  | .sched => Sys2Proof.Machine.execSched s
  | .cmd way cmdId cs payload => Sys2Proof.Machine.execCmd way cmdId cs payload s
  | .cmdVelocity way cs w => Sys2Proof.Machine.execCmdVelocity way cs w s
  | .cmdAngle way cs w => Sys2Proof.Machine.execCmdAngle way cs w s
  | .cmdRotate way cs mode => Sys2Proof.Machine.execCmdRotate way cs mode s
  | .tlm cls cs u4 u5 u6 u7 angle u10 u11 => Sys2Proof.Machine.execTlm cls cs u4 u5 u6 u7 angle u10 u11 s

end Sys2Proof.Machine
end

