-- ==== Sys2Proof/Machine/Step.lean ====
section
/-! DEFINITION. One step: the next record of the schedule is decoded and performed in a cycle of its own (92 D1).
With no record left the step is one clock of the timer, all an idle CORE does (R227, entry 3). -/

namespace Sys2Proof.Machine

open Host (Outcome)

/-- One step of the machine. -/
def step (s : State) : Outcome State Fault Refusal :=
  match s.events with
  | [] => exec .clk (startCycle [] s)
  | e :: es =>
    match decode e with
    | .ok i => exec i (startCycle es s)
    | .error why => .refused (.undecodable why)

/-- The state whose next step performs the opcode table's word `w` of `nbits` bits: its record is put at the
head of the schedule. -/
def State.withFetchWord (s : State) (nbits w : Nat) : State :=
  { s with events := tableBytes nbits w :: s.events }

end Sys2Proof.Machine
end

