-- ==== Sys2Proof/Machine/Hardware.lean ====
section
/-! DEFINITION. The hardware realisations the spec describes beside the abstract state: a tier as a circular
buffer (R22), the receive buffer as twelve byte registers with a length (R27), and the checksum accumulator
(R105). Contents outside the live range are any value (V3). Entry 22. -/

namespace Sys2Proof.Machine

/-- A circular buffer of frame slots with a read index, a write index and a count (R22). -/
structure Ring where
  slots : List Frame
  rd : Nat
  wr : Nat
  count : Nat
deriving DecidableEq, Repr

/-- A ring of `cap` slots whose indices are in range and agree with its count. -/
structure Ring.Wf (cap : Nat) (r : Ring) : Prop where
  slots_length : r.slots.length = cap
  rd_lt : r.rd < cap
  wr_eq : r.wr = (r.rd + r.count) % cap
  count_le : r.count ≤ cap

/-- The slot at an index. -/
def ringSlot (r : Ring) (i : Nat) : Frame := r.slots.getD i (Vector.replicate 12 0)

/-- The abstract sequence: slot[rd], slot[rd+1 mod CAP_t], ... for `count` elements (R22). -/
def ringLive (cap : Nat) (r : Ring) : List Frame :=
  (List.range r.count).map fun i => ringSlot r ((r.rd + i) % cap)

/-- `enqueue` on the ring, with its bulk drop: `rd <- wr`, the new frame at `wr`, `count <- 1` (R22). The
write index moves past the frame written (DEDUCED, entry 22). -/
def ringEnqueue (cap : Nat) (f : Frame) (r : Ring) : Ring :=
  if r.count < cap then
    { r with slots := r.slots.set r.wr f, wr := (r.wr + 1) % cap, count := r.count + 1 }
  else { slots := r.slots.set r.wr f, rd := r.wr, wr := (r.wr + 1) % cap, count := 1 }

/-- The dequeue of the head of the ring. -/
def ringDequeue (cap : Nat) (r : Ring) : Option Frame × Ring :=
  if r.count = 0 then (none, r)
  else (some (ringSlot r r.rd), { r with rd := (r.rd + 1) % cap, count := r.count - 1 })

/-- The twelve byte registers of the receive buffer and the length `rx_len` (R27). -/
structure RxRegs where
  regs : Vector Byte 12
  len : Nat
deriving DecidableEq, Repr

/-- The bytes that are observable: those below `rx_len` (R27). -/
def rxLive (r : RxRegs) : List Byte := r.regs.toList.take r.len

/-- The append of a byte. -/
def rxAppend (b : Byte) (r : RxRegs) : RxRegs :=
  if h : r.len < 12 then { regs := r.regs.set r.len b, len := r.len + 1 } else r

/-- The clear of the buffer; the registers keep their contents (R44). -/
def rxClear (r : RxRegs) : RxRegs := { r with len := 0 }

/-- The eleven bytes the checksum adds (R105). -/
def summedBytes (f : Frame) : List Byte :=
  [f[0], f[1], f[2], f[4], f[5], f[6], f[7], f[8], f[9], f[10], f[11]]

/-- The 8-bit accumulator: cleared, then one byte added at a time, carries out of bit 7 discarded (R105). -/
def accumulate (bs : List Byte) : Byte := bs.foldl (fun acc b => acc + b) 0

end Sys2Proof.Machine
end

