-- ==== Sys2Proof/Machine/Ports.lean ====
section
/-! DEFINITION. The ports of R35 to R40: the combinational outputs, the inputs sampled at one clock edge, and
the operations of one edge as a relation that admits every serial order (R60, R88; entry 11). -/

namespace Sys2Proof.Machine

open Host (Outcome)

/-- `sub_ready`, "constant 1" (R36). -/
def subReady (_ : State) : Bool := true

/-- `tx_valid`, "equal to tx_idx < 12" (R37). -/
def txValid (s : State) : Bool := decide (s.txIdx < 12)

/-- `tx_data` (R37); while idle a free value (V2), one for each index of the free values (DESIGN CHOICE, entries 9, 19). -/
def txData (s : State) : Byte :=
  if h : s.txIdx < 12 then s.txFrame[s.txIdx] else Config.idleTxData s.freeCnt

/-- `tlm_deg`, a combinational function of `tlm_raw` (R39). -/
def tlmDeg (s : State) : BitVec 32 := angleF32 s.tlmRaw

/-- `rx_len`, the length of the receive buffer (R27). -/
def rxLen (s : State) : Nat := s.rxBuf.length

/-- The inputs sampled at one rising edge of `clk` (R35 to R40). -/
structure Pins where
  rst : Bool
  subValid : Bool
  subKind : BitVec 3
  subTier : BitVec 2
  subData : BitVec 96
  txReady : Bool
  rxValid : Bool
  rxData : Byte
  clrValid : Bool
  clrMask : Byte
deriving DecidableEq, Repr

/-- The submission on the pins, if any (R36, R84 to R86). -/
def pinSubmit (p : Pins) : Except DecodeError (List Instr) :=
  if p.subValid then
    match decodeSubmit ((0 : BitVec 3) ++ p.subKind ++ p.subTier) (busBytes p.subData) with
    | .ok i => .ok [i]
    | .error why => .error why
  else .ok []

/-- The clear on the pins, if any (R40). -/
def pinClear (p : Pins) : List Instr := if p.clrValid then [.clrerr p.clrMask] else []

/-- The operations of one edge other than the clear (R35 to R38, R87): with `rst = 1` RESET alone; otherwise
the submission, RXB or RXE, TXB when `tx_valid` and `tx_ready`, SCHED when its condition holds, and CLK. -/
def pinOthers (p : Pins) (s : State) : Except DecodeError (List Instr) :=
  match pinSubmit p with
  | .error why => .error why
  | .ok subs =>
    .ok (subs ++ [if p.rxValid then .rxb p.rxData else .rxe] ++ (if txValid s && p.txReady then [.txb] else []) ++
      (if schedEnabled s then [.sched] else []) ++ [.clk])

/-- A sequence of operations with no cycle boundary between them, stopping at the first that does not go on. The
index of the free values stays as it is (entry 19). -/
def runOps : List Instr → State → Outcome State Fault Refusal
  | [], s => .next s
  | i :: is, s =>
    match exec i s with
    | .next s' => runOps is s'
    | .fault r => .fault r
    | .refused r => .refused r

/-- What one edge can do: RESET alone with `rst = 1` (R35, R88); otherwise all the edge's operations in some
serial order (R60), the clear first, "of which hardware always picks that one" (R191; entry 11). An edge is a
cycle of its own: the pulses of the cycle before have ended, and the index of the free values is fresh, so that
idle `tx_data` (V2) and `tx_frame` after RESET (V1) are left open at every edge anew (DESIGN CHOICE, entry 19). -/
def EdgeStep (p : Pins) (s t : State) : Prop :=
  if p.rst then exec .reset (startCycle s.events s) = .next t
  else ∃ others ops, pinOthers p s = .ok others ∧ ops.Perm others ∧
    runOps (pinClear p ++ ops) (startCycle s.events s) = .next t

end Sys2Proof.Machine
end

