-- ==== Sys2Proof/Safety.lean ====
section
/-! DEFINITION. The terms in which claims about CORE are made: the invariants of R41, quiescence, which
operations own which state (R45), the frames of R76 to R78 written out, and the histories of a run. -/

namespace Sys2Proof.Safety

open Host (Outcome)
open Machine

/-- The invariants of R41, items (i) to (vii). -/
structure CoreInv (s : State) : Prop where
  tiers_bounded : ∀ t, (s.q t).length ≤ Config.cfg.cap t
  txIdx_le : s.txIdx ≤ 12
  tickCnt_le : s.tickCnt ≤ Config.tickDiv - 1
  idle_iff_empty : s.rxState = .idle ↔ s.rxBuf.length = 0
  syncing_shape : s.rxState = .syncing →
    1 ≤ s.rxBuf.length ∧ s.rxBuf.length ≤ 11 ∧ s.rxBuf[0]? = some Config.sync
  marker_shape : 3 ≤ s.rxBuf.length → s.rxBuf[2]? = some Config.rxMark
  reserved_flags : s.errFlags.getLsbD 5 = false ∧ s.errFlags.getLsbD 6 = false ∧ s.errFlags.getLsbD 7 = false

/-- A quiescent state (R19, R238). -/
structure Quiescent (s : State) : Prop where
  high_empty : s.qHigh = []
  mid_empty : s.qMid = []
  low_empty : s.qLow = []
  not_sending : s.txIdx = 12
  no_tick : s.tickPend = false
  not_receiving : s.rxState = .idle

/-- The next state of an outcome, if it is one. -/
def stateOf : Outcome State Fault Refusal → Option State
  | .next s => some s
  | _ => none

/-- Operations performed one in each cycle, as step performs them: pulses low, schedule advanced. -/
def runCycles : List Instr → State → Outcome State Fault Refusal
  | [], s => .next s
  | i :: is, s =>
    match exec i (startCycle s.events.tail s) with
    | .next s' => runCycles is s'
    | .fault r => .fault r
    | .refused r => .refused r

/-- Bytes received one RXB in each cycle. -/
def receiveEach : List Byte → State → Outcome State Fault Refusal
  | [], s => .next s
  | b :: bs, s =>
    match exec (.rxb b) (pulsesLow s) with
    | .next s' => receiveEach bs s'
    | .fault r => .fault r
    | .refused r => .refused r

/-! The frames of R76 to R78, byte for byte. -/

/-- A command frame with its checksum (R76, R105). -/
def commandBytes (cmdId p0 p1 p2 p3 p4 p5 p6 p7 : Byte) : Frame :=
  #v[0x99, 0x02, cmdId, 0x99 + 0x02 + cmdId + p0 + p1 + p2 + p3 + p4 + p5 + p6 + p7, p0, p1, p2, p3, p4, p5, p6, p7]

/-- A velocity (0x0E) or angle (0x0F) frame (R77). -/
def floatBytes (cmdId : Byte) (w : BitVec 32) : Frame :=
  commandBytes cmdId (w.extractLsb' 0 8) (w.extractLsb' 8 8) (w.extractLsb' 16 8) (w.extractLsb' 24 8) 0 0 0 0

/-- A rotate-mode frame (R78). -/
def rotateBytes (mode : Byte) : Frame := commandBytes 0x10 mode 0 0 0 0 0 0 0

/-- The frame a SUBMIT operation enqueues, and its tier (R136 to R140). -/
def submission : Instr → Option (Tier × Frame)
  | .submitRaw t f => some (t, f)
  | .submitEnc t c p => some (t, commandBytes c p[0] p[1] p[2] p[3] p[4] p[5] p[6] p[7])
  | .submitVel t w => some (t, floatBytes 0x0E w)
  | .submitAng t w => some (t, floatBytes 0x0F w)
  | .submitRot t m => some (t, rotateBytes m)
  | _ => none

/-- The state with a frame appended to a tier. -/
def appended (t : Tier) (f : Frame) (s : State) : State :=
  match t with
  | .high => { s with qHigh := s.qHigh ++ [f] }
  | .mid => { s with qMid := s.qMid ++ [f] }
  | .low => { s with qLow := s.qLow ++ [f] }

/-- The state after a bulk drop (R131): the tier holds the new frame alone; its OVF flag (bits 2, 3, 4 of R29),
its diagnostic event and its pulse (R40) are set. -/
def bulkDropped (t : Tier) (f : Frame) (s : State) : State :=
  match t with
  | .high => { s with qHigh := [f], errFlags := s.errFlags ||| 0x04, diagOut := s.diagOut ++ [.queueOverflow .high], diagOvf := s.diagOvf ||| 1 }
  | .mid => { s with qMid := [f], errFlags := s.errFlags ||| 0x08, diagOut := s.diagOut ++ [.queueOverflow .mid], diagOvf := s.diagOvf ||| 2 }
  | .low => { s with qLow := [f], errFlags := s.errFlags ||| 0x10, diagOut := s.diagOut ++ [.queueOverflow .low], diagOvf := s.diagOvf ||| 4 }

/-- The state after the whole tick that sends the head frame `f` of the highest non-empty tier (R99, R157). -/
def afterSend (f : Frame) (s : State) : State :=
  { s with
    qHigh := s.qHigh.tail
    qMid := if s.qHigh = [] then s.qMid.tail else s.qMid
    qLow := if s.qHigh = [] ∧ s.qMid = [] then s.qLow.tail else s.qLow
    tickPend := false
    txFrame := f
    txOut := s.txOut ++ f.toList
    tlmValid := false
    diagChk := false
    diagDsy := false
    diagOvf := 0 }

/-- The state after twelve bytes from `Idle` whose third is a wrong marker and whose last nine hold no sync
byte (R173, R249): one FramingDesync, whose pulse has ended. -/
def afterDesync (s : State) : State :=
  { s with errFlags := s.errFlags ||| 0x02, diagOut := s.diagOut ++ [.framingDesync], tlmValid := false, diagChk := false, diagDsy := false, diagOvf := 0 }

/-! Ownership (R45): which operations may write which state. RESET writes all of the spec's elements but the traces. A
frame event writes what the operations it stands for write: that is the model's (DESIGN CHOICE, entry 4). -/

/-- An outbound frame, a whole tick of the timer context (R99). -/
def outbound : Instr → Bool
  | .cmd .outbound _ _ _ => true
  | .cmdVelocity .outbound _ _ => true
  | .cmdAngle .outbound _ _ => true
  | .cmdRotate .outbound _ _ => true
  | _ => false

/-- An inbound frame, twelve RXB. -/
def inbound : Instr → Bool
  | .cmd .inbound _ _ _ => true
  | .cmdVelocity .inbound _ _ => true
  | .cmdAngle .inbound _ _ => true
  | .cmdRotate .inbound _ _ => true
  | .tlm _ _ _ _ _ _ _ _ _ => true
  | _ => false

/-- An event of a single cycle: any operation but the twelve-byte frame events. -/
def singleCycle (i : Instr) : Bool := !(inbound i || outbound i)

/-- May write the tiers: SUBMIT, SCHED, RESET (R21), and an outbound frame (entry 4). -/
def writesQueues (i : Instr) : Bool := (submission i).isSome || i == .sched || i == .reset || outbound i

/-- May write `tick_cnt`: CLK, RESET (R23). -/
def writesTimer (i : Instr) : Bool := i == .clk || i == .reset

/-- May write `tick_pend`: CLK, TICK, SCHED, RESET (R24), and an outbound frame (entry 4). -/
def writesTick (i : Instr) : Bool := i == .clk || i == .tick || i == .sched || i == .reset || outbound i

/-- May write `tx_frame`: SCHED, RESET (R25), and an outbound frame (entry 4). -/
def writesTxFrame (i : Instr) : Bool := i == .sched || i == .reset || outbound i

/-- May write `tx_idx`: SCHED, TXB, RESET (R26), and an outbound frame (entry 4). -/
def writesTxIdx (i : Instr) : Bool := i == .sched || i == .txb || i == .reset || outbound i

/-- RXB with any byte. -/
def isRxb : Instr → Bool
  | .rxb _ => true
  | _ => false

/-- May write `rx_state`, `rx_buf`, `tlm_raw`: RXB, RESET (R27, R30), and an inbound frame (entry 4). -/
def writesRx (i : Instr) : Bool := isRxb i || i == .reset || inbound i

/-- CLRERR with any mask. -/
def isClrerr : Instr → Bool
  | .clrerr _ => true
  | _ => false

/-- May write `err_flags`: SUBMIT, RXB, CLRERR, RESET (R45), and an inbound frame (entry 4). -/
def writesFlags (i : Instr) : Bool := (submission i).isSome || isRxb i || isClrerr i || i == .reset || inbound i

/-! Histories of a run. -/

/-- The tier `dequeue_next` would serve: the highest non-empty one (R132). -/
def servedTier (s : State) : Option Tier :=
  if s.qHigh ≠ [] then some .high
  else if s.qMid ≠ [] then some .mid
  else if s.qLow ≠ [] then some .low
  else none

/-- The frame an operation loads for transmission (R153, R157). -/
def loadedBy (i : Instr) (s : State) : List Frame :=
  if i == .sched || outbound i then (nextFrame s).toList else []

/-- The frame an operation loads from a given tier. -/
def loadedFromBy (t : Tier) (i : Instr) (s : State) : List Frame :=
  if servedTier s = some t then loadedBy i s else []

/-- The frame an operation submits to a given tier. -/
def submittedBy (t : Tier) (i : Instr) : List Frame :=
  match submission i with
  | some (u, f) => if u = t then [f] else []
  | none => []

/-- The ticks an operation fires: TICK, CLK at expiry, and the tick of an outbound frame (R150, R151, R99). -/
def firedBy (i : Instr) (s : State) : Nat :=
  if i == .tick || outbound i || (i == .clk && s.tickCnt == 0) then 1 else 0

/-- A history summed along a run of operations. -/
def history {α : Type} (one : Instr → State → List α) : List Instr → State → List α
  | [], _ => []
  | i :: is, s =>
    match exec i s with
    | .next s' => one i s ++ history one is s'
    | _ => []

/-- The number of ticks fired along a run. -/
def fired : List Instr → State → Nat
  | [], _ => 0
  | i :: is, s =>
    match exec i s with
    | .next s' => firedBy i s + fired is s'
    | _ => 0

/-- The bytes of the frame in flight that the sink has not taken. -/
def inFlight (s : State) : List Byte := s.txFrame.toList.drop s.txIdx

/-- A timed run as an untimed one (R151): each expiring CLK becomes TICK, every other CLK is left out. -/
def untimed : List Instr → State → List Instr
  | [], _ => []
  | i :: is, s =>
    match exec i s with
    | .next s' =>
      if i = .clk then (if s.tickCnt = 0 then .tick :: untimed is s' else untimed is s') else i :: untimed is s'
    | _ => [i]

/-- The frames of a list enqueued into one tier, in order (R135). -/
def enqueueAll (c : Cfg) (t : Tier) (fs : List Frame) (s : State) : State :=
  fs.foldl (fun s f => enqueue c t f s) s

/-- The magnitude of a finite non-zero binary32 pattern, in units of 2^-150 (R117, G3): the significand
2^23 + fraction times 2^E for the biased exponent E. -/
def binary32Magnitude (w : BitVec 32) : Nat := (2 ^ 23 + w.toNat % 2 ^ 23) * 2 ^ (w.toNat / 2 ^ 23 % 2 ^ 8)

end Sys2Proof.Safety
end

