-- ==== Sys2Proof/Certificates/Slice0/Obligations.lean ====
section
/-! DEFINITION. The statements for the provers. Each docstring says what is stated and cites the rules. -/

open Sys2Proof Sys2Proof.Machine Sys2Proof.Safety

/-- For every well-formed operation, with every operand at every value, the decoder reads back from the encoder's
record exactly that operation. The record form is the model's (entries 2 and 5). (Derived from 30_encoding.md
R81, R84 to R87.) -/
def Obligations.DecodeInvertsEncode : Prop :=
  ∀ i : Instr, i.wellFormed = true → decode (encode i) = .ok i

/-- If an inbound frame decodes to an operation, the operation's record is that frame, so no bit is dropped, and
the frame matches the match and mask of the operation's row of the opcode table; and every frame that matches
some FRAME row decodes. If an outbound record, the tag 0x40 and then a frame, decodes to an operation, it is
the outbound event of one of the four CMD rows, its record is that one and the frame matches its row; and an
outbound frame decodes exactly when it matches one of those four rows. That the rows are such events, the tag
0x40, and which of two overlapping rows names a frame are the model's choices (DESIGN CHOICE, entries 2, 4 and
5). (Derived from 30_encoding.md R81; opcode_table.json FRAME rows.) -/
def Obligations.WireDecodingFollowsFrameRows : Prop :=
  (∀ (f : Frame) (i : Instr), decodeWire .inbound f.toList = .ok i →
      encode i = f.toList ∧ ∃ r ∈ frameRows, r.mnemonic = i.mnemonic ∧ r.fits f = true) ∧
    (∀ f : Frame, (∃ r ∈ frameRows, r.fits f = true) → ∃ i, decodeWire .inbound f.toList = .ok i) ∧
    (∀ (f : Frame) (i : Instr), decode (0x40 :: f.toList) = .ok i →
      encode i = 0x40 :: f.toList ∧ outbound i = true ∧ ∃ r ∈ frameRows, r.mnemonic = i.mnemonic ∧ r.fits f = true) ∧
    (∀ f : Frame, (∃ i, decode (0x40 :: f.toList) = .ok i) ↔ ∃ r ∈ frameRows, r.mnemonic ≠ "TLM" ∧ r.fits f = true)

/-- The opcode 010 00 with the pattern 0xC0200000 in sub_data is SUBMIT.VEL High, 100 00 with 0x01 is SUBMIT.ROT
High, 011 01 is SUBMIT.ANG Mid, the frame of vector V-DE1 is a TLM and the frame of V-BV1 a CMD.VELOCITY. The
opcodes, operands and frames are the spec's; the record of thirteen bytes, the reading of a record that begins
with 0x99 as an inbound frame, and the frame rows as operations are the model's (DESIGN CHOICE, entries 2, 4
and 5). (Derived from 30_encoding.md R77, R79, R84, R85, R86; 95_test_vectors.md programs P1 and P2, vectors
V-DE1 and V-BV1.) -/
def Obligations.SampleRecordsDecode : Prop :=
  decode [0x08, 0x00, 0x00, 0x20, 0xC0, 0, 0, 0, 0, 0, 0, 0, 0] = .ok (.submitVel .high 0xC0200000) ∧
    decode [0x10, 0x01, 0, 0, 0, 0, 0, 0, 0, 0, 0, 0, 0] = .ok (.submitRot .high 0x01) ∧
    decode [0x0D, 0x00, 0x00, 0xB4, 0x42, 0, 0, 0, 0, 0, 0, 0, 0] = .ok (.submitAng .mid 0x42B40000) ∧
    decode [0x99, 0x01, 0x01, 0xDB, 0, 0, 0, 0, 0, 0x40, 0, 0] = .ok (.tlm 0x01 0xDB 0 0 0 0 0x4000 0 0) ∧
    decode [0x99, 0x02, 0x0E, 0x89, 0x00, 0x00, 0x20, 0xC0, 0, 0, 0, 0] = .ok (.cmdVelocity .inbound 0x89 0xC0200000)

/-- A record with a submit opcode and the twelve bytes of sub_data is run by step as the operation that sub_kind
names (0 RAW, 1 ENC, 2 VEL, 3 ANG, 4 ROT), to the tier that sub_tier names (0 High, 1 Mid, 2 Low), with the
operands that R86 packs there. A sub_kind of 101, 110 or 111 makes step refuse the record with the reason
reservedKind, whatever its sub_tier, and a defined sub_kind with a sub_tier of 11 with the reason
reservedTier. The record (the opcode byte, the twelve bytes, the rest ignored) is the model's choice (entry
2), and so are the refusal and which reason has precedence (entry 13); that hardware ignores the reserved
codes is not part of the statement. (Derived from 30_encoding.md R84, R85, R86, R91, R92.) -/
def Obligations.ReservedSubmissionsRefused : Prop :=
  ∀ (op d0 d1 d2 d3 d4 d5 d6 d7 d8 d9 d10 d11 : Byte) (rest : List Byte) (es : List (List Byte)) (s : State),
    op.toNat < 32 → s.events = (op :: d0 :: d1 :: d2 :: d3 :: d4 :: d5 :: d6 :: d7 :: d8 :: d9 :: d10 :: d11 :: rest) :: es →
    (5 ≤ op.toNat / 4 → step s = .refused (.undecodable (.reservedKind op))) ∧
    (op.toNat / 4 < 5 → op.toNat % 4 = 3 → step s = .refused (.undecodable (.reservedTier op))) ∧
    (∀ t : Tier, (op.toNat % 4 = 0 ∧ t = .high) ∨ (op.toNat % 4 = 1 ∧ t = .mid) ∨ (op.toNat % 4 = 2 ∧ t = .low) →
      (op.toNat / 4 = 0 →
        step s = exec (.submitRaw t #v[d0, d1, d2, d3, d4, d5, d6, d7, d8, d9, d10, d11]) (startCycle es s)) ∧
      (op.toNat / 4 = 1 → step s = exec (.submitEnc t d0 #v[d1, d2, d3, d4, d5, d6, d7, d8]) (startCycle es s)) ∧
      (op.toNat / 4 = 2 → step s = exec (.submitVel t (d3 ++ d2 ++ d1 ++ d0)) (startCycle es s)) ∧
      (op.toNat / 4 = 3 → step s = exec (.submitAng t (d3 ++ d2 ++ d1 ++ d0)) (startCycle es s)) ∧
      (op.toNat / 4 = 4 → step s = exec (.submitRot t d0) (startCycle es s)) ∧
      (op.toNat / 4 < 5 → ∃ i f,
        decode (op :: d0 :: d1 :: d2 :: d3 :: d4 :: d5 :: d6 :: d7 :: d8 :: d9 :: d10 :: d11 :: rest) = .ok i ∧
        submission i = some (t, f) ∧ step s = exec i (startCycle es s)))

/-- When the next record of the schedule decodes to an operation, step is exec of that operation on the state with
the output pulses low, the record consumed and the free-value index advanced; a record that decodes to none is
refused with the decoder's reason. The schedule is the model's (entries 1, 10, 19). (Derived from 20_memory.md
R58, R60; 92_eei_decisions.md D1.) -/
def Obligations.StepRunsTheDecodedOperation : Prop :=
  ∀ (s : State) (e : List Byte) (es : List (List Byte)), s.events = e :: es →
    (∀ i, decode e = .ok i → step s = exec i { s with tlmValid := false, diagChk := false, diagDsy := false, diagOvf := 0, events := es, freeCnt := s.freeCnt + 1 }) ∧
    (∀ why, decode e = .error why → step s = .refused (.undecodable why))

/-- With an empty schedule step is CLK on the state with the pulses low and the free-value index advanced. This is
the model's choice (entry 3), after 'An idle CORE does nothing but count tick_cnt'. (Derived from
60_exceptions.md R227; 92_eei_decisions.md D10.) -/
def Obligations.StepWithNothingPresentedIsOneClock : Prop :=
  ∀ s : State, s.events = [] →
    step s = exec .clk { s with tlmValid := false, diagChk := false, diagDsy := false, diagOvf := 0, events := [], freeCnt := s.freeCnt + 1 }

/-- For every list of well-formed operations, as many steps of the machine as the list is long, from any state
whose schedule is the list encoded, end exactly as performing the operations one after another, each in a
cycle of its own: with the same next state, or the same fault or refusal. The schedule held in State and the
records that encode it are the model's (DESIGN CHOICE, entries 1 and 2), and so is the boundary between two
cycles (pulses low, record consumed, free-value index advanced: DEDUCED and DESIGN CHOICE, entries 10 and 19);
from the spec are the atomic steps and that the run is a sequence of them. (Derived from 20_memory.md R58,
R60; 92_eei_decisions.md D1.) -/
def Obligations.ScheduleRunsInOrder : Prop :=
  ∀ (ops : List Instr) (s : State), (∀ i ∈ ops, i.wellFormed = true) → s.events = ops.map encode →
    Host.Core.run Sys2Proof.core ops.length s = runCycles ops s

/-- SUBMIT.RAW, SUBMIT.ENC, SUBMIT.VEL, SUBMIT.ANG and SUBMIT.ROT to a tier shorter than its capacity answer the
next state that differs only in that tier, which has the frame at its tail: the raw frame verbatim, or the
command frame written out byte for byte with its checksum. The second clause says the same of enqueue for
every configuration. (The rule R130.) -/
def Obligations.SubmitAppendsWhenTheTierHasRoom : Prop :=
  (∀ (t : Tier) (s : State), (s.q t).length < Config.cfg.cap t →
    (∀ f : Frame, exec (.submitRaw t f) s = .next (appended t f s)) ∧
    (∀ (c : Byte) (p : Payload), exec (.submitEnc t c p) s = .next (appended t (commandBytes c p[0] p[1] p[2] p[3] p[4] p[5] p[6] p[7]) s)) ∧
    (∀ w : BitVec 32, exec (.submitVel t w) s = .next (appended t (floatBytes 0x0E w) s)) ∧
    (∀ w : BitVec 32, exec (.submitAng t w) s = .next (appended t (floatBytes 0x0F w) s)) ∧
    (∀ m : Byte, exec (.submitRot t m) s = .next (appended t (rotateBytes m) s))) ∧
    (∀ (c : Cfg) (t : Tier) (f : Frame) (s : State), (s.q t).length < c.cap t → enqueue c t f s = appended t f s)

/-- The five SUBMIT operations to a tier at its capacity answer the next state in which that tier holds the new
frame alone, the tier's OVF flag is set, QueueOverflow of the tier is appended to diag_out and its pulse is
set; every other element is unchanged. The second clause says the same of enqueue for every configuration.
(The rule R131.) -/
def Obligations.SubmitDropsTheTierOnOverflow : Prop :=
  (∀ (t : Tier) (s : State), Config.cfg.cap t ≤ (s.q t).length →
    (∀ f : Frame, exec (.submitRaw t f) s = .next (bulkDropped t f s)) ∧
    (∀ (c : Byte) (p : Payload), exec (.submitEnc t c p) s = .next (bulkDropped t (commandBytes c p[0] p[1] p[2] p[3] p[4] p[5] p[6] p[7]) s)) ∧
    (∀ w : BitVec 32, exec (.submitVel t w) s = .next (bulkDropped t (floatBytes 0x0E w) s)) ∧
    (∀ w : BitVec 32, exec (.submitAng t w) s = .next (bulkDropped t (floatBytes 0x0F w) s)) ∧
    (∀ m : Byte, exec (.submitRot t m) s = .next (bulkDropped t (rotateBytes m) s))) ∧
    (∀ (c : Cfg) (t : Tier) (f : Frame) (s : State), c.cap t ≤ (s.q t).length → enqueue c t f s = bulkDropped t f s)

/-- For every configuration with capacities of at least 1, enqueueing a non-empty list of frames into an empty
tier leaves exactly the last ((k - 1) mod CAP_t) + 1 of them in order, raises floor((k - 1) / CAP_t) overflows
of that tier and leaves the other tiers alone. (Derived from 41_priority_queue.md R135, R131, R142.) -/
def Obligations.EnqueuesFromEmptyLeaveTheLastRun : Prop :=
  ∀ (c : Cfg) (t : Tier) (fs : List Frame) (s : State), c.Valid → s.q t = [] → fs ≠ [] →
    (enqueueAll c t fs s).q t = fs.drop (fs.length - ((fs.length - 1) % c.cap t + 1)) ∧
    (enqueueAll c t fs s).diagOut = s.diagOut ++ List.replicate ((fs.length - 1) / c.cap t) (.queueOverflow t) ∧
    ∀ u, u ≠ t → (enqueueAll c t fs s).q u = s.q u

/-- For every valid configuration and a state with all tiers empty: whatever the order in which A goes to High, B
to Mid and C to Low, three dequeues give A, B, C and a fourth gives none and changes nothing. (Derived from
41_priority_queue.md R134, R132, R133.) -/
def Obligations.DequeueOrderIsHighMidLow : Prop :=
  ∀ (c : Cfg) (s : State) (a b d : Frame) (order : List (Tier × Frame)), c.Valid → (∀ t, s.q t = []) →
    order.Perm [(.high, a), (.mid, b), (.low, d)] →
    ∃ s1 s2 s3, dequeueNext (order.foldl (fun s x => enqueue c x.1 x.2 s) s) = (some a, s1) ∧
      dequeueNext s1 = (some b, s2) ∧ dequeueNext s2 = (some d, s3) ∧ dequeueNext s3 = (none, s3)

/-- On a well-formed ring of cap slots, the ring's enqueue gives a well-formed ring whose live sequence is the old
one with the frame appended, or the frame alone when it was full; its dequeue returns the head of the live
sequence and leaves the tail, well-formed. The position of the write index after a write is the model's
reading (entry 22). (Derived from 10_state.md R22; 41_priority_queue.md R131, R132.) -/
def Obligations.RingBufferRefinesTheTier : Prop :=
  ∀ (cap : Nat) (r : Ring) (f : Frame), r.Wf cap →
    ((ringEnqueue cap f r).Wf cap ∧
      ringLive cap (ringEnqueue cap f r) =
        if (ringLive cap r).length < cap then ringLive cap r ++ [f] else [f]) ∧
    ((ringDequeue cap r).2.Wf cap ∧ (ringDequeue cap r).1 = (ringLive cap r).head? ∧
      ringLive cap (ringDequeue cap r).2 = (ringLive cap r).tail)

/-- Below twelve bytes an append to the registers appends to the observable bytes; rx_len is their number; after a
clear none is observable. (Derived from 10_state.md R27.) -/
def Obligations.ByteRegistersRefineTheReceiveBuffer : Prop :=
  ∀ (r : RxRegs) (b : Byte),
    (r.len < 12 → rxLive (rxAppend b r) = rxLive r ++ [b] ∧ (rxLive (rxAppend b r)).length = r.len + 1) ∧
    (r.len ≤ 12 → (rxLive r).length = r.len) ∧ rxLive (rxClear r) = []

/-- From tick_cnt = TICK_DIV - 1, any number n of clocks below TICK_DIV only lowers tick_cnt by n, and TICK_DIV
clocks set tick_pend and leave a full period again. (The rule R150.) -/
def Obligations.TickFiresEveryTickDivClocks : Prop :=
  ∀ (s : State), s.tickCnt = Config.tickDiv - 1 →
    (∀ n, n < Config.tickDiv → runOps (List.replicate n .clk) s = .next { s with tickCnt := Config.tickDiv - 1 - n }) ∧
    runOps (List.replicate Config.tickDiv .clk) s = .next { s with tickPend := true } ∧
    (∀ u : State, u.tickCnt = 0 → exec .clk u = .next { u with tickCnt := Config.tickDiv - 1, tickPend := true }) ∧
    (∀ (u : State) (n : Nat), u.tickCnt = n + 1 → exec .clk u = .next { u with tickCnt := n })

/-- TICK answers the state with tick_pend = 1 and nothing else changed; a second TICK changes nothing more.
(Derived from 42_transmit_scheduler.md R151; 10_state.md R24.) -/
def Obligations.TickSetsPendingOnce : Prop :=
  ∀ s : State, exec .tick s = .next { s with tickPend := true } ∧
    runOps [.tick, .tick] s = .next { s with tickPend := true }

/-- For every run of operations that goes on to a next state, the run with each expiring CLK replaced by TICK and
every other CLK deleted holds no CLK, goes on too, and ends in the same state but for tick_cnt. (Derived from
42_transmit_scheduler.md R151.) -/
def Obligations.TimedRunIsAnUntimedRun : Prop :=
  ∀ (ops : List Instr) (s t : State), runOps ops s = .next t →
    Instr.clk ∉ untimed ops s ∧ ∃ u, runOps (untimed ops s) s = .next u ∧ u = { t with tickCnt := u.tickCnt }

/-- With a tick pending and the transmitter idle, SCHED answers the next state with tick_pend = 0 and, from the
highest non-empty tier, its head in tx_frame, tx_idx = 0 and the tier shortened; with all tiers empty only
tick_pend changes. (Derived from 42_transmit_scheduler.md R153; 41_priority_queue.md R132.) -/
def Obligations.SchedLoadsTheHighestPriorityHead : Prop :=
  ∀ s : State, s.tickPend = true → s.txIdx = 12 →
    (∀ f r, s.qHigh = f :: r →
      dequeueNext s = (some f, { s with qHigh := r }) ∧
      exec .sched s = .next { s with qHigh := r, tickPend := false, txFrame := f, txIdx := 0 }) ∧
    (∀ f r, s.qHigh = [] → s.qMid = f :: r →
      dequeueNext s = (some f, { s with qMid := r }) ∧
      exec .sched s = .next { s with qMid := r, tickPend := false, txFrame := f, txIdx := 0 }) ∧
    (∀ f r, s.qHigh = [] → s.qMid = [] → s.qLow = f :: r →
      dequeueNext s = (some f, { s with qLow := r }) ∧
      exec .sched s = .next { s with qLow := r, tickPend := false, txFrame := f, txIdx := 0 }) ∧
    (s.qHigh = [] → s.qMid = [] → s.qLow = [] →
      dequeueNext s = (none, s) ∧ exec .sched s = .next { s with tickPend := false })

/-- With tx_idx below 12 TXB answers the state with that byte of tx_frame appended to tx_out and tx_idx one more;
nothing else changes. (Derived from 42_transmit_scheduler.md R155.) -/
def Obligations.TxbSendsTheByteAtTxIdx : Prop :=
  ∀ (s : State) (h : s.txIdx < 12),
    exec .txb s = .next { s with txOut := s.txOut ++ [s.txFrame[s.txIdx]], txIdx := s.txIdx + 1 }

/-- From an idle transmitter, TICK, SCHED and twelve TXB append the twelve bytes of the head of the highest non-
empty tier to tx_out, remove it from its tier and leave the transmitter idle with no tick pending; with all
tiers empty TICK and SCHED leave only tick_pend cleared. (Derived from 42_transmit_scheduler.md R157, R153,
R155; 30_encoding.md R99.) -/
def Obligations.WholeTickSendsOneFrame : Prop :=
  ∀ s : State, s.txIdx = 12 →
    (∀ f r, s.qHigh = f :: r → runOps (.tick :: .sched :: List.replicate 12 .txb) s =
      .next { s with qHigh := r, tickPend := false, txFrame := f, txOut := s.txOut ++ f.toList }) ∧
    (∀ f r, s.qHigh = [] → s.qMid = f :: r → runOps (.tick :: .sched :: List.replicate 12 .txb) s =
      .next { s with qMid := r, tickPend := false, txFrame := f, txOut := s.txOut ++ f.toList }) ∧
    (∀ f r, s.qHigh = [] → s.qMid = [] → s.qLow = f :: r → runOps (.tick :: .sched :: List.replicate 12 .txb) s =
      .next { s with qLow := r, tickPend := false, txFrame := f, txOut := s.txOut ++ f.toList }) ∧
    (s.qHigh = [] → s.qMid = [] → s.qLow = [] → runOps [.tick, .sched] s = .next { s with tickPend := false })

/-- With tx_idx below 12, every operation other than RESET and TXB that goes on leaves tx_frame and tx_idx as they
were. (Derived from 42_transmit_scheduler.md R159; 20_memory.md R59.) -/
def Obligations.FrameInFlightIsNotDisturbed : Prop :=
  ∀ (i : Instr) (s t : State), s.txIdx < 12 → i ≠ .reset → i ≠ .txb → exec i s = .next t →
    t.txFrame = s.txFrame ∧ t.txIdx = s.txIdx

/-- Along every run without RESET, from any state: the bytes sent so far followed by the unsent rest of the frame
in flight are the same at the start with every frame loaded by the run appended, whole and in the order
loaded. An outbound frame, the model's event (DESIGN CHOICE, entry 4), counts as the TICK, SCHED and TXB*12 it
stands for. (Derived from 42_transmit_scheduler.md R156; 20_memory.md R65.) -/
def Obligations.TransmittedBytesAreLoadedFrames : Prop :=
  ∀ (ops : List Instr) (s t : State), Instr.reset ∉ ops → runOps ops s = .next t →
    t.txOut ++ inFlight t = s.txOut ++ inFlight s ++ (history loadedBy ops s).flatMap (fun f => f.toList)

/-- Along every run without RESET that raises no overflow of tier t: the frames in t at the start followed by
those submitted to t are the frames loaded from t followed by those left in t. An outbound frame, the model's
event (DESIGN CHOICE, entry 4), counts as the TICK, SCHED and TXB*12 it stands for. (Derived from 20_memory.md
R64; 41_priority_queue.md R130, R132.) -/
def Obligations.TierIsFirstInFirstOut : Prop :=
  ∀ (t : Tier) (ops : List Instr) (s u : State), Instr.reset ∉ ops → runOps ops s = .next u →
    Diag.queueOverflow t ∉ u.diagOut.drop s.diagOut.length →
    s.q t ++ ops.flatMap (submittedBy t) = history (loadedFromBy t) ops s ++ u.q t

/-- Along every run that goes on, the number of frames loaded, plus one if a tick is pending at the end, is at
most the number of ticks fired plus one if a tick was pending at the start. An outbound frame, the model's
event (DESIGN CHOICE, entry 4), counts as the TICK, SCHED and TXB*12 it stands for. (Derived from
42_transmit_scheduler.md R154, R153, R161.) -/
def Obligations.FramesLoadedAreBoundedByTicks : Prop :=
  ∀ (ops : List Instr) (s t : State), runOps ops s = .next t →
    (history loadedBy ops s).length + (if t.tickPend then 1 else 0) ≤
      fired ops s + (if s.tickPend then 1 else 0)

/-- With the transmitter idle, CMD, CMD.VELOCITY, CMD.ANGLE and CMD.ROTATE outbound, when the frame is the one
dequeue_next would return, answer the state with the frame's twelve bytes appended to tx_out, the frame
removed from its tier, tx_frame that frame, no tick pending and the pulses low. That a frame row stands for
this event is the model's choice (entry 4). (Derived from 42_transmit_scheduler.md R157; 30_encoding.md R76,
R77, R78, R99.) -/
def Obligations.OutboundCommandFrameIsSentWhole : Prop :=
  ∀ s : State, s.txIdx = 12 →
    (∀ (c cs : Byte) (p : Payload),
      nextFrame s = some #v[0x99, 0x02, c, cs, p[0], p[1], p[2], p[3], p[4], p[5], p[6], p[7]] →
      exec (.cmd .outbound c cs p) s = .next (afterSend #v[0x99, 0x02, c, cs, p[0], p[1], p[2], p[3], p[4], p[5], p[6], p[7]] s)) ∧
    (∀ (cs : Byte) (w : BitVec 32),
      nextFrame s = some #v[0x99, 0x02, 0x0E, cs, w.extractLsb' 0 8, w.extractLsb' 8 8, w.extractLsb' 16 8, w.extractLsb' 24 8, 0, 0, 0, 0] →
      exec (.cmdVelocity .outbound cs w) s =
        .next (afterSend #v[0x99, 0x02, 0x0E, cs, w.extractLsb' 0 8, w.extractLsb' 8 8, w.extractLsb' 16 8, w.extractLsb' 24 8, 0, 0, 0, 0] s)) ∧
    (∀ (cs : Byte) (w : BitVec 32),
      nextFrame s = some #v[0x99, 0x02, 0x0F, cs, w.extractLsb' 0 8, w.extractLsb' 8 8, w.extractLsb' 16 8, w.extractLsb' 24 8, 0, 0, 0, 0] →
      exec (.cmdAngle .outbound cs w) s =
        .next (afterSend #v[0x99, 0x02, 0x0F, cs, w.extractLsb' 0 8, w.extractLsb' 8 8, w.extractLsb' 16 8, w.extractLsb' 24 8, 0, 0, 0, 0] s)) ∧
    (∀ cs m : Byte, nextFrame s = some #v[0x99, 0x02, 0x10, cs, m, 0, 0, 0, 0, 0, 0, 0] →
      exec (.cmdRotate .outbound cs m) s = .next (afterSend #v[0x99, 0x02, 0x10, cs, m, 0, 0, 0, 0, 0, 0, 0] s))

/-- In Idle RXB answers, for the byte 0x99, the state Syncing with the buffer [0x99], and for any other byte the
state unchanged: no error and no flag. (The rule R171.) -/
def Obligations.IdleReceiverHuntsForSync : Prop :=
  ∀ (b : Byte) (s : State), s.rxState = .idle →
    (b = 0x99 → exec (.rxb b) s = .next { s with rxState := .syncing, rxBuf := [0x99] }) ∧
    (b ≠ 0x99 → exec (.rxb b) s = .next s)

/-- In Syncing, when the append makes the buffer 2 or 4 to 11 bytes long, RXB answers the state with the byte
appended whatever its value, and nothing else changed. (The rule R172.) -/
def Obligations.SyncingReceiverAppendsAnyByte : Prop :=
  ∀ (b : Byte) (s : State), s.rxState = .syncing →
    (s.rxBuf.length + 1 = 2 ∨ (4 ≤ s.rxBuf.length + 1 ∧ s.rxBuf.length + 1 ≤ 11)) →
    exec (.rxb b) s = .next { s with rxBuf := s.rxBuf ++ [b] }

/-- In Syncing with two bytes buffered, RXB of 0x01 appends it, and RXB of any other byte, 0x99 too, answers Idle
with an empty buffer, DSY set, one FramingDesync and its pulse; nothing else changes and nothing is delivered.
(The rule R173.) -/
def Obligations.WrongMarkerAbortsTheFrame : Prop :=
  ∀ (b : Byte) (s : State), s.rxState = .syncing → s.rxBuf.length = 2 →
    (b = 0x01 → exec (.rxb b) s = .next { s with rxBuf := s.rxBuf ++ [b] }) ∧
    (b ≠ 0x01 → exec (.rxb b) s = .next { s with
      rxState := .idle, rxBuf := [], errFlags := s.errFlags ||| 0x02, diagOut := s.diagOut ++ [.framingDesync], diagDsy := true })

/-- In Syncing with eleven bytes buffered, the first 0x99 and the third 0x01, RXB answers Idle with an empty
buffer: with the angle of offsets 8 and 9 in tlm_raw, one telemetry event and its pulse when the other bytes
add up to byte 3, and otherwise with CHK set, one ChecksumMismatch and its pulse and tlm_raw unchanged. (The
rule R174.) -/
def Obligations.TwelfthByteDeliversOrDiscards : Prop :=
  ∀ (b1 b3 b4 b5 b6 b7 b8 b9 b10 b11 : Byte) (s : State), s.rxState = .syncing →
    s.rxBuf = [0x99, b1, 0x01, b3, b4, b5, b6, b7, b8, b9, b10] →
    (0x99 + b1 + 0x01 + b4 + b5 + b6 + b7 + b8 + b9 + b10 + b11 = b3 →
      exec (.rxb b11) s = .next { s with
        rxState := .idle, rxBuf := [], tlmRaw := b9 ++ b8, tlmOut := s.tlmOut ++ [b9 ++ b8], tlmValid := true }) ∧
    (0x99 + b1 + 0x01 + b4 + b5 + b6 + b7 + b8 + b9 + b10 + b11 ≠ b3 →
      exec (.rxb b11) s = .next { s with
        rxState := .idle, rxBuf := [], errFlags := s.errFlags ||| 0x01, diagOut := s.diagOut ++ [.checksumMismatch], diagChk := true })

/-- RXE answers the state unchanged, in Syncing too: there is no receive timeout. (The rule R176.) -/
def Obligations.EmptyReadChangesNothing : Prop :=
  ∀ s : State, exec .rxe s = .next s

/-- From Idle with an empty buffer, receiving any bytes without 0x99 and then the twelve bytes of a frame with
sync byte, marker and checksum right ends in the start state with tlm_raw, one new telemetry event and its
pulse the only changes. (Derived from 43_receive_synchronizer.md R181, R175; 90_conflicts.md C6.) -/
def Obligations.ResynchronizesAfterGarbageWithoutSync : Prop :=
  ∀ (ps : List Byte) (f : Frame) (s : State), s.rxState = .idle → s.rxBuf = [] → (0x99 : Byte) ∉ ps →
    f[0] = 0x99 → f[2] = 0x01 → csum f = f[3] →
    runOps ((ps ++ f.toList).map .rxb) s =
      .next { s with tlmRaw := f[9] ++ f[8], tlmOut := s.tlmOut ++ [f[9] ++ f[8]], tlmValid := true }

/-- If CLK, TICK, SCHED or TXB goes on from a state, then it goes on after an RXB too, and the two orders end in
the same state. (Derived from 20_memory.md R67; 10_state.md R45.) -/
def Obligations.ReceiveAndTransmitCommute : Prop :=
  ∀ (b : Byte) (i : Instr) (s t : State), i ∈ [Instr.clk, Instr.tick, Instr.sched, Instr.txb] → exec i s = .next t →
    ∃ r u, exec (.rxb b) s = .next r ∧ exec i r = .next u ∧ exec (.rxb b) t = .next u

/-- TLM from Idle with an empty buffer answers the state with the angle in tlm_raw, one telemetry event and its
pulse when the stored checksum is right, and with CHK, one ChecksumMismatch and its pulse when it is not; the
bytes at offsets 1, 4 to 7, 10 and 11 may be anything. That the row stands for twelve RXB is the model's
choice (entry 4). (Derived from 43_receive_synchronizer.md R170, R174, R180; 30_encoding.md R79, R94.) -/
def Obligations.TelemetryFrameArrives : Prop :=
  ∀ (cls cs u4 u5 u6 u7 : Byte) (angle : BitVec 16) (u10 u11 : Byte) (s : State),
    s.rxState = .idle → s.rxBuf = [] →
    (cs = 0x99 + cls + 0x01 + u4 + u5 + u6 + u7 + angle.extractLsb' 0 8 + angle.extractLsb' 8 8 + u10 + u11 →
      exec (.tlm cls cs u4 u5 u6 u7 angle u10 u11) s = .next { s with
        tlmRaw := angle, tlmOut := s.tlmOut ++ [angle], tlmValid := true, diagChk := false, diagDsy := false, diagOvf := 0 }) ∧
    (cs ≠ 0x99 + cls + 0x01 + u4 + u5 + u6 + u7 + angle.extractLsb' 0 8 + angle.extractLsb' 8 8 + u10 + u11 →
      exec (.tlm cls cs u4 u5 u6 u7 angle u10 u11) s = .next { s with
        errFlags := s.errFlags ||| 0x01, diagOut := s.diagOut ++ [.checksumMismatch],
        tlmValid := false, diagChk := true, diagDsy := false, diagOvf := 0 })

/-- CMD with an id other than 0x01, CMD.VELOCITY, CMD.ANGLE and CMD.ROTATE inbound from Idle with an empty buffer,
with no 0x99 among the bytes after the third, answer the state with DSY set and one FramingDesync, its pulse
over, and nothing else changed but the pulses low. That the rows stand for twelve RXB is the model's choice
(entry 4). (Derived from 70_reset_and_hazards.md R249; 43_receive_synchronizer.md R173; 30_encoding.md R94.) -/
def Obligations.EchoedCommandFrameIsRejected : Prop :=
  ∀ s : State, s.rxState = .idle → s.rxBuf = [] →
    (∀ (c cs : Byte) (p : Payload), c ≠ 0x01 → cs ≠ 0x99 → (0x99 : Byte) ∉ p.toList →
      exec (.cmd .inbound c cs p) s = .next (afterDesync s)) ∧
    (∀ (cs : Byte) (w : BitVec 32), cs ≠ 0x99 → (0x99 : Byte) ∉ f32le w →
      exec (.cmdVelocity .inbound cs w) s = .next (afterDesync s)) ∧
    (∀ (cs : Byte) (w : BitVec 32), cs ≠ 0x99 → (0x99 : Byte) ∉ f32le w →
      exec (.cmdAngle .inbound cs w) s = .next (afterDesync s)) ∧
    (∀ cs m : Byte, cs ≠ 0x99 → m ≠ 0x99 → exec (.cmdRotate .inbound cs m) s = .next (afterDesync s))

/-- CMD, CMD.VELOCITY, CMD.ANGLE and CMD.ROTATE inbound and TLM answer a next state from every state, the one that
twelve RXB of the frame's bytes in wire order answer, each in a cycle of its own. That the rows stand for
twelve RXB is the model's choice (entry 4). (Derived from 20_memory.md R50, R66; 30_encoding.md R76, R77, R78,
R79, R98.) -/
def Obligations.InboundFrameIsTwelveReceivedBytes : Prop :=
  ∀ s : State,
    (∀ (c cs : Byte) (p : Payload), ∃ t, exec (.cmd .inbound c cs p) s = .next t ∧
      receiveEach [0x99, 0x02, c, cs, p[0], p[1], p[2], p[3], p[4], p[5], p[6], p[7]] s = .next t) ∧
    (∀ (cs : Byte) (w : BitVec 32), ∃ t, exec (.cmdVelocity .inbound cs w) s = .next t ∧
      receiveEach [0x99, 0x02, 0x0E, cs, w.extractLsb' 0 8, w.extractLsb' 8 8, w.extractLsb' 16 8, w.extractLsb' 24 8, 0, 0, 0, 0] s = .next t) ∧
    (∀ (cs : Byte) (w : BitVec 32), ∃ t, exec (.cmdAngle .inbound cs w) s = .next t ∧
      receiveEach [0x99, 0x02, 0x0F, cs, w.extractLsb' 0 8, w.extractLsb' 8 8, w.extractLsb' 16 8, w.extractLsb' 24 8, 0, 0, 0, 0] s = .next t) ∧
    (∀ cs m : Byte, ∃ t, exec (.cmdRotate .inbound cs m) s = .next t ∧
      receiveEach [0x99, 0x02, 0x10, cs, m, 0, 0, 0, 0, 0, 0, 0] s = .next t) ∧
    (∀ (cls cs u4 u5 u6 u7 : Byte) (angle : BitVec 16) (u10 u11 : Byte), ∃ t,
      exec (.tlm cls cs u4 u5 u6 u7 angle u10 u11) s = .next t ∧
      receiveEach [0x99, cls, 0x01, cs, u4, u5, u6, u7, angle.extractLsb' 0 8, angle.extractLsb' 8 8, u10, u11] s = .next t)

/-- RESET answers, from every state, the state with empty tiers, a full timer period, no tick pending, an idle
transmitter with some tx_frame, the receiver Idle and empty, tlm_raw, err_flags and the pulses zero, and the
traces unchanged; a second RESET changes nothing more but for tx_frame. Which tx_frame results, each time, is
left open (entry 8). (Derived from 44_system_ops.md R190; 10_state.md R44.) -/
def Obligations.ResetRestoresEveryElement : Prop :=
  ∀ s : State, ∃ f : Frame, ∃ t : State, exec .reset s = .next t ∧
    (∃ g : Frame, exec .reset t = .next { t with txFrame := g }) ∧ t = { s with
      qHigh := [], qMid := [], qLow := [], tickCnt := Config.tickDiv - 1, tickPend := false, txFrame := f, txIdx := 12,
      rxState := .idle, rxBuf := [], tlmRaw := 0, errFlags := 0, tlmValid := false, diagChk := false, diagDsy := false, diagOvf := 0 }

/-- In the machine's reset state every element with a reset value in the spec has it and the traces are empty;
tx_frame, the schedule and the free-value index, whose values are the model's (entries 1, 8, 19), are not part
of the statement. (The rule R44.) -/
def Obligations.ResetStateIsTheSpecs : Prop :=
  State.reset.qHigh = [] ∧ State.reset.qMid = [] ∧ State.reset.qLow = [] ∧ State.reset.tickCnt = Config.tickDiv - 1 ∧
    State.reset.tickPend = false ∧ State.reset.txIdx = 12 ∧ State.reset.rxState = .idle ∧ State.reset.rxBuf = [] ∧
    State.reset.tlmRaw = 0x0000 ∧ State.reset.errFlags = 0x00 ∧ State.reset.tlmValid = false ∧
    State.reset.diagChk = false ∧ State.reset.diagDsy = false ∧ State.reset.diagOvf = 0 ∧
    State.reset.txOut = [] ∧ State.reset.tlmOut = [] ∧ State.reset.diagOut = [] ∧
    (∀ s t : State, exec .reset s = .next t → t.txOut = s.txOut ∧ t.tlmOut = s.tlmOut ∧ t.diagOut = s.diagOut)

/-- CLRERR answers the state that differs at most in err_flags, where each bit stays set exactly when it was set
and its mask bit is 0. (Derived from 44_system_ops.md R191.) -/
def Obligations.ClrerrClearsTheMaskedFlags : Prop :=
  ∀ (mask : Byte) (s : State), ∃ fl : BitVec 8, exec (.clrerr mask) s = .next { s with errFlags := fl } ∧
    ∀ k, fl.getLsbD k = (s.errFlags.getLsbD k && !(mask.getLsbD k))

/-- The seven invariants hold in the machine's reset state. (Derived from 10_state.md R41, R44.) -/
def Obligations.ResetStateSatisfiesTheInvariant : Prop :=
  CoreInv State.reset

/-- From every state that satisfies the invariants (bounded tiers, tx_idx at most 12, tick_cnt below TICK_DIV,
Idle exactly with an empty buffer, the sync byte first, the marker third, reserved flags 0), a step that
answers a next state answers one that satisfies them. (Derived from 10_state.md R41.) -/
def Obligations.EveryStepKeepsTheInvariant : Prop :=
  ∀ s t : State, CoreInv s → step s = .next t → CoreInv t

/-- Every operation that goes on leaves each of tx_out, tlm_out and diag_out an extension of what it was. (Derived
from 10_state.md R33; 44_system_ops.md R190.) -/
def Obligations.TracesOnlyGrow : Prop :=
  ∀ (i : Instr) (s t : State), exec i s = .next t →
    s.txOut <+: t.txOut ∧ s.tlmOut <+: t.tlmOut ∧ s.diagOut <+: t.diagOut

/-- If an operation goes on from a state, then from the same state with any other traces it goes on to the same
state, with the same bytes, values and events appended to those other traces. (Derived from 10_state.md R33.) -/
def Obligations.TracesAreNeverRead : Prop :=
  ∀ (i : Instr) (s t : State) (x : List Byte) (y : List (BitVec 16)) (z : List Diag), exec i s = .next t →
    exec i { s with txOut := x, tlmOut := y, diagOut := z } =
      .next { t with
        txOut := x ++ t.txOut.drop s.txOut.length, tlmOut := y ++ t.tlmOut.drop s.tlmOut.length,
        diagOut := z ++ t.diagOut.drop s.diagOut.length }

/-- If an operation goes on from a state, then from the same state with any other err_flags it goes on to a state
that differs at most in err_flags. (Derived from 10_state.md R29.) -/
def Obligations.ErrorFlagsAreNeverRead : Prop :=
  ∀ (i : Instr) (s t : State) (x : BitVec 8), exec i s = .next t →
    ∃ y, exec i { s with errFlags := x } = .next { t with errFlags := y }

/-- Every operation that goes on, other than RESET and a CLRERR whose mask selects the flag, leaves a set flag
set. (Derived from 10_state.md R29; 60_exceptions.md R201.) -/
def Obligations.ErrorFlagsAreSticky : Prop :=
  ∀ (i : Instr) (s t : State) (k : Nat), exec i s = .next t → s.errFlags.getLsbD k = true →
    i ≠ .reset → (∀ m, i = .clrerr m → m.getLsbD k = false) → t.errFlags.getLsbD k = true

/-- Every operation that goes on leaves alone: the tiers unless it is a SUBMIT (which leaves the other tiers
alone), SCHED or RESET; tick_cnt unless CLK or RESET; tick_pend unless CLK, TICK, SCHED or RESET; tx_frame
unless SCHED or RESET; tx_idx unless SCHED, TXB or RESET; the receiver's elements and tlm_raw unless RXB or
RESET; err_flags unless a SUBMIT, RXB, CLRERR or RESET. Two kinds of clause are the model's and no rule's. The
frame events are writers too, because an outbound frame stands for TICK, SCHED and TXB*12 and may write the
tiers, tick_pend, tx_frame and tx_idx, and an inbound frame for twelve RXB and may write the receiver's
elements, tlm_raw and err_flags (DESIGN CHOICE, entry 4; the rules list only the operations of R90). And no
operation writes the schedule or the free-value index, two fields of the model's own that only the cycle
boundary writes (DESIGN CHOICE, entries 1 and 19). (Derived from 10_state.md R45, R21, R23, R24, R25, R26,
R27, R29, R30.) -/
def Obligations.OnlyTheOwnersWriteAnElement : Prop :=
  ∀ (i : Instr) (s t : State), exec i s = .next t →
    (writesQueues i = false → ∀ u, t.q u = s.q u) ∧
    (∀ u f, submission i = some (u, f) → ∀ v, v ≠ u → t.q v = s.q v) ∧
    (writesTimer i = false → t.tickCnt = s.tickCnt) ∧ (writesTick i = false → t.tickPend = s.tickPend) ∧
    (writesTxFrame i = false → t.txFrame = s.txFrame) ∧ (writesTxIdx i = false → t.txIdx = s.txIdx) ∧
    (writesRx i = false → t.rxState = s.rxState ∧ t.rxBuf = s.rxBuf ∧ t.tlmRaw = s.tlmRaw) ∧
    (writesFlags i = false → t.errFlags = s.errFlags) ∧ t.events = s.events ∧ t.freeCnt = s.freeCnt

/-- Every operation answers a next state, but for TXB with tx_idx not below 12, SCHED with no tick pending or a
frame in flight, and an outbound frame that is not the next one or finds a frame in flight: those answer the
named fault, and nothing is ever refused by exec. The faults are the model's form of 'not enabled: no step'
(DESIGN CHOICE, entry 12), and the outbound frame is the model's event (DESIGN CHOICE, entry 4). (Derived from
60_exceptions.md R207; 42_transmit_scheduler.md R153, R155; 95_test_vectors.md V-T8, V-T9, V-T12.) -/
def Obligations.OnlyDisabledOperationsStop : Prop :=
  ∀ (i : Instr) (s : State),
    ((∃ t, exec i s = .next t) ↔
      (i = .txb → s.txIdx < 12) ∧ (i = .sched → s.tickPend = true ∧ s.txIdx = 12) ∧
      (outbound i = true → s.txIdx = 12 ∧ ∃ f, nextFrame s = some f ∧ encode i = 0x40 :: f.toList)) ∧
    (∀ why, exec i s ≠ .refused why) ∧ (∀ why, exec i s = .fault why →
      (why = .txbNotEnabled ∧ i = .txb) ∨ (why = .schedNotEnabled ∧ i = .sched) ∨ (why = .frameNotNext ∧ outbound i = true))

/-- Every operation of the thirteen that goes on leaves diag_out as it was or appends one event: ChecksumMismatch
or FramingDesync from RXB, QueueOverflow of its own tier from a SUBMIT; the event's flag is set afterwards.
(Derived from 60_exceptions.md R210, R201, R205, R206.) -/
def Obligations.OneOperationRaisesAtMostOneError : Prop :=
  ∀ (i : Instr) (s t : State), singleCycle i = true → exec i s = .next t →
    t.diagOut = s.diagOut ∨ ∃ e, t.diagOut = s.diagOut ++ [e] ∧ t.errFlags.getLsbD (flagBit e) = true ∧
      ((isRxb i = true ∧ (e = .checksumMismatch ∨ e = .framingDesync)) ∨
        ∃ u f, submission i = some (u, f) ∧ e = .queueOverflow u)

/-- Every step that answers a next state keeps diag_out free of PortOpenFailure and PartialWrite. (Derived from
60_exceptions.md R205, R206; 42_transmit_scheduler.md R158.) -/
def Obligations.AdapterErrorsAreNeverRaised : Prop :=
  ∀ s t : State, (Diag.portOpenFailure ∉ s.diagOut ∧ Diag.partialWrite ∉ s.diagOut) → step s = .next t →
    Diag.portOpenFailure ∉ t.diagOut ∧ Diag.partialWrite ∉ t.diagOut

/-- After a step that performs one of the thirteen operations, tlm_valid is high exactly when the step delivered a
telemetry value, which is then tlm_raw, and each diag pulse is high exactly when the step emitted its event.
One operation in each cycle is the spec's decision D1 (entry 10). (Derived from 10_state.md R39, R40;
60_exceptions.md R201; 92_eei_decisions.md D1.) -/
def Obligations.PulsesAreHighForTheCycleOfTheirEvent : Prop :=
  ∀ (s t : State) (e : List Byte) (es : List (List Byte)) (i : Instr), s.events = e :: es → decode e = .ok i →
    singleCycle i = true → step s = .next t →
    (t.tlmValid = true ↔ t.tlmOut = s.tlmOut ++ [t.tlmRaw]) ∧
    (t.diagChk = true ↔ t.diagOut = s.diagOut ++ [.checksumMismatch]) ∧
    (t.diagDsy = true ↔ t.diagOut = s.diagOut ++ [.framingDesync]) ∧
    (∀ u, t.diagOvf.getLsbD (ovfPulseBit u) = true ↔ t.diagOut = s.diagOut ++ [.queueOverflow u])

/-- From a state with empty tiers, an idle transmitter and the receiver Idle, whether or not a tick is pending,
each of CLK, TICK, SCHED, RXE and CLRERR that goes on leaves the three traces as they were, the tiers empty,
the transmitter idle and the receiver Idle. (Derived from 70_reset_and_hazards.md R238; 60_exceptions.md
R227.) -/
def Obligations.IdleCoreLeavesTheTracesAlone : Prop :=
  ∀ (i : Instr) (s t : State), Quiescent { s with tickPend := false } →
    (i = .clk ∨ i = .tick ∨ i = .sched ∨ i = .rxe ∨ isClrerr i = true) → exec i s = .next t →
    t.txOut = s.txOut ∧ t.tlmOut = s.tlmOut ∧ t.diagOut = s.diagOut ∧ Quiescent { t with tickPend := false }

/-- With rst = 1, whatever the other pins, an edge has a result, and its result is the one of RESET on the state
before the edge, with the free-value index of the new cycle (the model's own, entry 19). (Derived from
10_state.md R35; 30_encoding.md R88.) -/
def Obligations.ResetPinSuppressesTheEdge : Prop :=
  ∀ (p : Pins) (s : State), p.rst = true → ∃ t, EdgeStep p s t ∧
    exec .reset { s with freeCnt := s.freeCnt + 1 } = .next t ∧
    ∀ u, EdgeStep p s u → u = t

/-- Without reset and with a defined submission, the operations that fall on one edge, the clear among them, go on
to a next state in every order of them; and for every order of the others after the clear, that next state is
a result of the edge. That an edge performs the clear first is R191's 'clear, then set', and EdgeStep with its
choice of the operations is the model's form of an edge (DEDUCED, entry 11). (Derived from 20_memory.md R60;
30_encoding.md R88; 44_system_ops.md R191.) -/
def Obligations.EveryOrderOfAnEdgeCompletes : Prop :=
  ∀ (p : Pins) (s : State) (others : List Instr), p.rst = false → pinOthers p s = .ok others →
    (∀ ops : List Instr, ops.Perm (pinClear p ++ others) → ∃ t, runOps ops (startCycle s.events s) = .next t) ∧
    (∀ ops : List Instr, ops.Perm others →
      ∃ t, runOps (pinClear p ++ ops) (startCycle s.events s) = .next t ∧ EdgeStep p s t)

/-- csum of a frame is the sum of the eleven byte values other than offset 3, modulo 256; it does not depend on
byte 3; and the 8-bit accumulator gives it whatever the order in which the eleven bytes are added. (The rule
R105.) -/
def Obligations.ChecksumIsTheSumModulo256 : Prop :=
  ∀ f : Frame,
    (csum f).toNat = (f[0].toNat + f[1].toNat + f[2].toNat + f[4].toNat + f[5].toNat + f[6].toNat + f[7].toNat +
      f[8].toNat + f[9].toNat + f[10].toNat + f[11].toNat) % 256 ∧
    (∀ b : Byte, csum (f.set 3 b) = csum f) ∧
    (∀ l : List Byte, l.Perm (summedBytes f) → accumulate l = csum f)

/-- csum_ok holds exactly when csum equals byte 3, which is exactly when the sum of all twelve bytes is congruent
to 2 * f[3] modulo 256; a frame that decode accepts passes it. (The rule R106.) -/
def Obligations.ChecksumTestIsTwiceByteThree : Prop :=
  ∀ f : Frame, (csumOk f = true ↔ csum f = f[3]) ∧
    (csumOk f = true ↔ (f[0].toNat + f[1].toNat + f[2].toNat + f[3].toNat + f[4].toNat + f[5].toNat + f[6].toNat +
      f[7].toNat + f[8].toNat + f[9].toNat + f[10].toNat + f[11].toNat) % 256 = 2 * f[3].toNat % 256) ∧
    (∀ n, frameDecode f = .ok n → csumOk f = true)

/-- For every command id and payload, encode gives a frame that passes csum_ok, with 0x99, 0x02 and the id at
offsets 0, 1 and 2 and the payload at offsets 4 to 11; the velocity, angle and rotate-mode builders give such
frames with ids 0x0E, 0x0F and 0x10, the pattern little-endian or the mode byte first, and zeros after.
(Derived from 40_frame_codec.md R119, R107, R109, R110, R111.) -/
def Obligations.EncodedFramesCarryAGoodChecksum : Prop :=
  ∀ (c : Byte) (p : Payload),
    (csumOk (frameEncode c p) = true ∧ (frameEncode c p)[0] = 0x99 ∧ (frameEncode c p)[1] = 0x02 ∧ (frameEncode c p)[2] = c ∧
      ∀ (j : Nat) (h : j < 8), (frameEncode c p)[4 + j] = p[j]) ∧
    (∀ w : BitVec 32, buildVel w = floatBytes 0x0E w ∧ buildAng w = floatBytes 0x0F w ∧
      ((buildVel w)[7] ++ (buildVel w)[6] ++ (buildVel w)[5] ++ (buildVel w)[4] : BitVec 32) = w ∧
      ((buildAng w)[7] ++ (buildAng w)[6] ++ (buildAng w)[5] ++ (buildAng w)[4] : BitVec 32) = w) ∧
    (∀ m : Byte, buildRot m = rotateBytes m)

/-- decode gives FramingDesync for a wrong byte 0 or, with byte 0 right, a wrong byte 2, whatever the rest,
ChecksumMismatch when only the checksum is wrong, and otherwise the 16-bit pattern with byte 9 high and byte 8
low. (The rule R113.) -/
def Obligations.DecodeChecksSyncMarkerChecksum : Prop :=
  ∀ f : Frame,
    (f[0] ≠ 0x99 → frameDecode f = .error .framingDesync) ∧
    (f[0] = 0x99 → f[2] ≠ 0x01 → frameDecode f = .error .framingDesync) ∧
    (f[0] = 0x99 → f[2] = 0x01 → csum f ≠ f[3] → frameDecode f = .error .checksumMismatch) ∧
    (f[0] = 0x99 → f[2] = 0x01 → csum f = f[3] →
      frameDecode f = .ok (f[9] ++ f[8]) ∧
      (f[9] ++ f[8] : BitVec 16).toInt =
        if f[9].toNat < 128 then (f[9].toNat * 256 + f[8].toNat : Int) else f[9].toNat * 256 + f[8].toNat - 65536)

/-- decode of encode of any payload is FramingDesync for every command id other than 0x01, and for 0x01 the value
of payload bytes 4 and 5. (Derived from 40_frame_codec.md R115.) -/
def Obligations.DecodeRejectsEncodedCommands : Prop :=
  ∀ (c : Byte) (p : Payload), (c ≠ 0x01 → frameDecode (frameEncode c p) = .error .framingDesync) ∧
    frameDecode (frameEncode 0x01 p) = .ok (p[5] ++ p[4])

/-- Changing any one byte of a frame that passes csum_ok makes it fail; adding d to one summed byte and
subtracting it from another keeps it passing. (Derived from 40_frame_codec.md R118.) -/
def Obligations.SingleByteChangesAreDetected : Prop :=
  ∀ f : Frame, csumOk f = true →
    (∀ (k : Nat) (h : k < 12) (b : Byte), b ≠ f[k] → csumOk (f.set k b) = false) ∧
    (∀ (j k : Nat) (hj : j < 12) (hk : k < 12) (d : Byte), j ≠ k → j ≠ 3 → k ≠ 3 →
      csumOk ((f.set j (f[j] + d)).set k (f[k] - d)) = true)

/-- For every raw angle n, n * 180 lies between -5898240 and 5898060; its binary32 pattern is zero exactly for n =
0, has the sign of n, a biased exponent strictly between 0 and 255, and its significand and exponent give
exactly the magnitude |n| * 180 / 2^15. The layout of binary32 is general knowledge, as the spec says (entry
15). (Derived from 40_frame_codec.md R116, R117, R121; 93_implementation_defined.md G3.) -/
def Obligations.AngleInDegreesIsExact : Prop :=
  ∀ n : BitVec 16,
    (-5898240 ≤ angleQ15 n ∧ angleQ15 n ≤ 5898060 ∧ angleQ15 n = n.toInt * 180) ∧
    (angleF32 n = 0 ↔ n = 0) ∧ ((angleF32 n).getLsbD 31 = true ↔ n.toInt < 0) ∧
    (n ≠ 0 → 0 < (angleF32 n).toNat / 2 ^ 23 % 2 ^ 8 ∧ (angleF32 n).toNat / 2 ^ 23 % 2 ^ 8 < 255 ∧
      binary32Magnitude (angleF32 n) = (n.toInt * 180).natAbs * 2 ^ 135)
end

