-- ==== Sys2Proof/Laws/Operands.lean ====
section
/-! SUPPORT. The operand forms are lossless, and the bytes of the frame layouts. -/

namespace Sys2Proof.Machine

@[simp] theorem le32_f32le (w : BitVec 32) :
    le32 (w.extractLsb' 0 8) (w.extractLsb' 8 8) (w.extractLsb' 16 8) (w.extractLsb' 24 8) = w := by
  unfold le32
  ext i hi
  simp only [BitVec.getElem_append, BitVec.getElem_extractLsb']
  split
  · simp [BitVec.getLsbD_eq_getElem hi]
  · split
    · rw [← BitVec.getLsbD_eq_getElem hi]; congr 1; omega
    · split
      · rw [← BitVec.getLsbD_eq_getElem hi]; congr 1; omega
      · rw [← BitVec.getLsbD_eq_getElem hi]; congr 1; omega

@[simp] theorem s16_lo16_hi16 (n : BitVec 16) : s16 (lo16 n) (hi16 n) = n := by
  unfold s16 lo16 hi16
  ext i hi
  simp only [BitVec.getElem_append, BitVec.getElem_extractLsb']
  split
  · simp [BitVec.getLsbD_eq_getElem hi]
  · rw [← BitVec.getLsbD_eq_getElem hi]; congr 1; omega

/-- A frame as the literal of its bytes. -/
theorem frame_eta (f : Frame) :
    f = #v[f[0], f[1], f[2], f[3], f[4], f[5], f[6], f[7], f[8], f[9], f[10], f[11]] := by
  ext i hi
  interval_cases i <;> rfl

/-- The wire order of a frame, byte for byte. -/
theorem frame_toList (f : Frame) :
    f.toList = [f[0], f[1], f[2], f[3], f[4], f[5], f[6], f[7], f[8], f[9], f[10], f[11]] := by
  conv_lhs => rw [frame_eta f]
  rfl

/-- A payload as the literal of its bytes. -/
theorem payload_eta (p : Payload) : p = #v[p[0], p[1], p[2], p[3], p[4], p[5], p[6], p[7]] := by
  ext i hi
  interval_cases i <;> rfl

/-- `encode` writes the layout of R76 with its checksum in place. -/
theorem frameEncode_eq (c : Byte) (p : Payload) :
    frameEncode c p = cmdFrame c (0x99 + 0x02 + c + p[0] + p[1] + p[2] + p[3] + p[4] + p[5] + p[6] + p[7]) p := rfl

end Sys2Proof.Machine
end

