-- ==== Sys2Proof/Laws/State.lean ====
section
/-! SUPPORT. One lemma for each field of State under each record update of Machine/Ops.lean, so that no proof
unfolds an update. -/

namespace Sys2Proof.Machine

@[simp] theorem raise_qHigh (e : Diag) (s : State) : (raise e s).qHigh = s.qHigh := rfl
@[simp] theorem raise_qMid (e : Diag) (s : State) : (raise e s).qMid = s.qMid := rfl
@[simp] theorem raise_qLow (e : Diag) (s : State) : (raise e s).qLow = s.qLow := rfl
@[simp] theorem raise_tickCnt (e : Diag) (s : State) : (raise e s).tickCnt = s.tickCnt := rfl
@[simp] theorem raise_tickPend (e : Diag) (s : State) : (raise e s).tickPend = s.tickPend := rfl
@[simp] theorem raise_txFrame (e : Diag) (s : State) : (raise e s).txFrame = s.txFrame := rfl
@[simp] theorem raise_txIdx (e : Diag) (s : State) : (raise e s).txIdx = s.txIdx := rfl
@[simp] theorem raise_rxState (e : Diag) (s : State) : (raise e s).rxState = s.rxState := rfl
@[simp] theorem raise_rxBuf (e : Diag) (s : State) : (raise e s).rxBuf = s.rxBuf := rfl
@[simp] theorem raise_tlmRaw (e : Diag) (s : State) : (raise e s).tlmRaw = s.tlmRaw := rfl
@[simp] theorem raise_errFlags (e : Diag) (s : State) : (raise e s).errFlags = setFlag e s.errFlags := rfl
@[simp] theorem raise_tlmValid (e : Diag) (s : State) : (raise e s).tlmValid = s.tlmValid := rfl
@[simp] theorem raise_diagChk (e : Diag) (s : State) : (raise e s).diagChk = (s.diagChk || e == .checksumMismatch) := rfl
@[simp] theorem raise_diagDsy (e : Diag) (s : State) : (raise e s).diagDsy = (s.diagDsy || e == .framingDesync) := rfl
@[simp] theorem raise_txOut (e : Diag) (s : State) : (raise e s).txOut = s.txOut := rfl
@[simp] theorem raise_tlmOut (e : Diag) (s : State) : (raise e s).tlmOut = s.tlmOut := rfl
@[simp] theorem raise_diagOut (e : Diag) (s : State) : (raise e s).diagOut = s.diagOut ++ [e] := rfl
@[simp] theorem raise_events (e : Diag) (s : State) : (raise e s).events = s.events := rfl
@[simp] theorem raise_freeCnt (e : Diag) (s : State) : (raise e s).freeCnt = s.freeCnt := rfl

@[simp] theorem deliverTlm_qHigh (n : BitVec 16) (s : State) : (deliverTlm n s).qHigh = s.qHigh := rfl
@[simp] theorem deliverTlm_qMid (n : BitVec 16) (s : State) : (deliverTlm n s).qMid = s.qMid := rfl
@[simp] theorem deliverTlm_qLow (n : BitVec 16) (s : State) : (deliverTlm n s).qLow = s.qLow := rfl
@[simp] theorem deliverTlm_tickCnt (n : BitVec 16) (s : State) : (deliverTlm n s).tickCnt = s.tickCnt := rfl
@[simp] theorem deliverTlm_tickPend (n : BitVec 16) (s : State) : (deliverTlm n s).tickPend = s.tickPend := rfl
@[simp] theorem deliverTlm_txFrame (n : BitVec 16) (s : State) : (deliverTlm n s).txFrame = s.txFrame := rfl
@[simp] theorem deliverTlm_txIdx (n : BitVec 16) (s : State) : (deliverTlm n s).txIdx = s.txIdx := rfl
@[simp] theorem deliverTlm_rxState (n : BitVec 16) (s : State) : (deliverTlm n s).rxState = s.rxState := rfl
@[simp] theorem deliverTlm_rxBuf (n : BitVec 16) (s : State) : (deliverTlm n s).rxBuf = s.rxBuf := rfl
@[simp] theorem deliverTlm_tlmRaw (n : BitVec 16) (s : State) : (deliverTlm n s).tlmRaw = n := rfl
@[simp] theorem deliverTlm_errFlags (n : BitVec 16) (s : State) : (deliverTlm n s).errFlags = s.errFlags := rfl
@[simp] theorem deliverTlm_tlmValid (n : BitVec 16) (s : State) : (deliverTlm n s).tlmValid = true := rfl
@[simp] theorem deliverTlm_diagChk (n : BitVec 16) (s : State) : (deliverTlm n s).diagChk = s.diagChk := rfl
@[simp] theorem deliverTlm_diagDsy (n : BitVec 16) (s : State) : (deliverTlm n s).diagDsy = s.diagDsy := rfl
@[simp] theorem deliverTlm_diagOvf (n : BitVec 16) (s : State) : (deliverTlm n s).diagOvf = s.diagOvf := rfl
@[simp] theorem deliverTlm_txOut (n : BitVec 16) (s : State) : (deliverTlm n s).txOut = s.txOut := rfl
@[simp] theorem deliverTlm_tlmOut (n : BitVec 16) (s : State) : (deliverTlm n s).tlmOut = s.tlmOut ++ [n] := rfl
@[simp] theorem deliverTlm_diagOut (n : BitVec 16) (s : State) : (deliverTlm n s).diagOut = s.diagOut := rfl
@[simp] theorem deliverTlm_events (n : BitVec 16) (s : State) : (deliverTlm n s).events = s.events := rfl
@[simp] theorem deliverTlm_freeCnt (n : BitVec 16) (s : State) : (deliverTlm n s).freeCnt = s.freeCnt := rfl

@[simp] theorem pulsesLow_qHigh (s : State) : (pulsesLow s).qHigh = s.qHigh := rfl
@[simp] theorem pulsesLow_qMid (s : State) : (pulsesLow s).qMid = s.qMid := rfl
@[simp] theorem pulsesLow_qLow (s : State) : (pulsesLow s).qLow = s.qLow := rfl
@[simp] theorem pulsesLow_tickCnt (s : State) : (pulsesLow s).tickCnt = s.tickCnt := rfl
@[simp] theorem pulsesLow_tickPend (s : State) : (pulsesLow s).tickPend = s.tickPend := rfl
@[simp] theorem pulsesLow_txFrame (s : State) : (pulsesLow s).txFrame = s.txFrame := rfl
@[simp] theorem pulsesLow_txIdx (s : State) : (pulsesLow s).txIdx = s.txIdx := rfl
@[simp] theorem pulsesLow_rxState (s : State) : (pulsesLow s).rxState = s.rxState := rfl
@[simp] theorem pulsesLow_rxBuf (s : State) : (pulsesLow s).rxBuf = s.rxBuf := rfl
@[simp] theorem pulsesLow_tlmRaw (s : State) : (pulsesLow s).tlmRaw = s.tlmRaw := rfl
@[simp] theorem pulsesLow_errFlags (s : State) : (pulsesLow s).errFlags = s.errFlags := rfl
@[simp] theorem pulsesLow_tlmValid (s : State) : (pulsesLow s).tlmValid = false := rfl
@[simp] theorem pulsesLow_diagChk (s : State) : (pulsesLow s).diagChk = false := rfl
@[simp] theorem pulsesLow_diagDsy (s : State) : (pulsesLow s).diagDsy = false := rfl
@[simp] theorem pulsesLow_diagOvf (s : State) : (pulsesLow s).diagOvf = 0 := rfl
@[simp] theorem pulsesLow_txOut (s : State) : (pulsesLow s).txOut = s.txOut := rfl
@[simp] theorem pulsesLow_tlmOut (s : State) : (pulsesLow s).tlmOut = s.tlmOut := rfl
@[simp] theorem pulsesLow_diagOut (s : State) : (pulsesLow s).diagOut = s.diagOut := rfl
@[simp] theorem pulsesLow_events (s : State) : (pulsesLow s).events = s.events := rfl
@[simp] theorem pulsesLow_freeCnt (s : State) : (pulsesLow s).freeCnt = s.freeCnt := rfl

@[simp] theorem startCycle_qHigh (es : List (List Byte)) (s : State) : (startCycle es s).qHigh = s.qHigh := rfl
@[simp] theorem startCycle_qMid (es : List (List Byte)) (s : State) : (startCycle es s).qMid = s.qMid := rfl
@[simp] theorem startCycle_qLow (es : List (List Byte)) (s : State) : (startCycle es s).qLow = s.qLow := rfl
@[simp] theorem startCycle_tickCnt (es : List (List Byte)) (s : State) : (startCycle es s).tickCnt = s.tickCnt := rfl
@[simp] theorem startCycle_tickPend (es : List (List Byte)) (s : State) : (startCycle es s).tickPend = s.tickPend := rfl
@[simp] theorem startCycle_txFrame (es : List (List Byte)) (s : State) : (startCycle es s).txFrame = s.txFrame := rfl
@[simp] theorem startCycle_txIdx (es : List (List Byte)) (s : State) : (startCycle es s).txIdx = s.txIdx := rfl
@[simp] theorem startCycle_rxState (es : List (List Byte)) (s : State) : (startCycle es s).rxState = s.rxState := rfl
@[simp] theorem startCycle_rxBuf (es : List (List Byte)) (s : State) : (startCycle es s).rxBuf = s.rxBuf := rfl
@[simp] theorem startCycle_tlmRaw (es : List (List Byte)) (s : State) : (startCycle es s).tlmRaw = s.tlmRaw := rfl
@[simp] theorem startCycle_errFlags (es : List (List Byte)) (s : State) : (startCycle es s).errFlags = s.errFlags := rfl
@[simp] theorem startCycle_tlmValid (es : List (List Byte)) (s : State) : (startCycle es s).tlmValid = false := rfl
@[simp] theorem startCycle_diagChk (es : List (List Byte)) (s : State) : (startCycle es s).diagChk = false := rfl
@[simp] theorem startCycle_diagDsy (es : List (List Byte)) (s : State) : (startCycle es s).diagDsy = false := rfl
@[simp] theorem startCycle_diagOvf (es : List (List Byte)) (s : State) : (startCycle es s).diagOvf = 0 := rfl
@[simp] theorem startCycle_txOut (es : List (List Byte)) (s : State) : (startCycle es s).txOut = s.txOut := rfl
@[simp] theorem startCycle_tlmOut (es : List (List Byte)) (s : State) : (startCycle es s).tlmOut = s.tlmOut := rfl
@[simp] theorem startCycle_diagOut (es : List (List Byte)) (s : State) : (startCycle es s).diagOut = s.diagOut := rfl
@[simp] theorem startCycle_events (es : List (List Byte)) (s : State) : (startCycle es s).events = es := rfl
@[simp] theorem startCycle_freeCnt (es : List (List Byte)) (s : State) : (startCycle es s).freeCnt = s.freeCnt + 1 := rfl

@[simp] theorem rxToIdle_qHigh (s : State) : (rxToIdle s).qHigh = s.qHigh := rfl
@[simp] theorem rxToIdle_qMid (s : State) : (rxToIdle s).qMid = s.qMid := rfl
@[simp] theorem rxToIdle_qLow (s : State) : (rxToIdle s).qLow = s.qLow := rfl
@[simp] theorem rxToIdle_tickCnt (s : State) : (rxToIdle s).tickCnt = s.tickCnt := rfl
@[simp] theorem rxToIdle_tickPend (s : State) : (rxToIdle s).tickPend = s.tickPend := rfl
@[simp] theorem rxToIdle_txFrame (s : State) : (rxToIdle s).txFrame = s.txFrame := rfl
@[simp] theorem rxToIdle_txIdx (s : State) : (rxToIdle s).txIdx = s.txIdx := rfl
@[simp] theorem rxToIdle_rxState (s : State) : (rxToIdle s).rxState = .idle := rfl
@[simp] theorem rxToIdle_rxBuf (s : State) : (rxToIdle s).rxBuf = [] := rfl
@[simp] theorem rxToIdle_tlmRaw (s : State) : (rxToIdle s).tlmRaw = s.tlmRaw := rfl
@[simp] theorem rxToIdle_errFlags (s : State) : (rxToIdle s).errFlags = s.errFlags := rfl
@[simp] theorem rxToIdle_tlmValid (s : State) : (rxToIdle s).tlmValid = s.tlmValid := rfl
@[simp] theorem rxToIdle_diagChk (s : State) : (rxToIdle s).diagChk = s.diagChk := rfl
@[simp] theorem rxToIdle_diagDsy (s : State) : (rxToIdle s).diagDsy = s.diagDsy := rfl
@[simp] theorem rxToIdle_diagOvf (s : State) : (rxToIdle s).diagOvf = s.diagOvf := rfl
@[simp] theorem rxToIdle_txOut (s : State) : (rxToIdle s).txOut = s.txOut := rfl
@[simp] theorem rxToIdle_tlmOut (s : State) : (rxToIdle s).tlmOut = s.tlmOut := rfl
@[simp] theorem rxToIdle_diagOut (s : State) : (rxToIdle s).diagOut = s.diagOut := rfl
@[simp] theorem rxToIdle_events (s : State) : (rxToIdle s).events = s.events := rfl
@[simp] theorem rxToIdle_freeCnt (s : State) : (rxToIdle s).freeCnt = s.freeCnt := rfl

@[simp] theorem fireTick_qHigh (s : State) : (fireTick s).qHigh = s.qHigh := rfl
@[simp] theorem fireTick_qMid (s : State) : (fireTick s).qMid = s.qMid := rfl
@[simp] theorem fireTick_qLow (s : State) : (fireTick s).qLow = s.qLow := rfl
@[simp] theorem fireTick_tickCnt (s : State) : (fireTick s).tickCnt = s.tickCnt := rfl
@[simp] theorem fireTick_tickPend (s : State) : (fireTick s).tickPend = true := rfl
@[simp] theorem fireTick_txFrame (s : State) : (fireTick s).txFrame = s.txFrame := rfl
@[simp] theorem fireTick_txIdx (s : State) : (fireTick s).txIdx = s.txIdx := rfl
@[simp] theorem fireTick_rxState (s : State) : (fireTick s).rxState = s.rxState := rfl
@[simp] theorem fireTick_rxBuf (s : State) : (fireTick s).rxBuf = s.rxBuf := rfl
@[simp] theorem fireTick_tlmRaw (s : State) : (fireTick s).tlmRaw = s.tlmRaw := rfl
@[simp] theorem fireTick_errFlags (s : State) : (fireTick s).errFlags = s.errFlags := rfl
@[simp] theorem fireTick_tlmValid (s : State) : (fireTick s).tlmValid = s.tlmValid := rfl
@[simp] theorem fireTick_diagChk (s : State) : (fireTick s).diagChk = s.diagChk := rfl
@[simp] theorem fireTick_diagDsy (s : State) : (fireTick s).diagDsy = s.diagDsy := rfl
@[simp] theorem fireTick_diagOvf (s : State) : (fireTick s).diagOvf = s.diagOvf := rfl
@[simp] theorem fireTick_txOut (s : State) : (fireTick s).txOut = s.txOut := rfl
@[simp] theorem fireTick_tlmOut (s : State) : (fireTick s).tlmOut = s.tlmOut := rfl
@[simp] theorem fireTick_diagOut (s : State) : (fireTick s).diagOut = s.diagOut := rfl
@[simp] theorem fireTick_events (s : State) : (fireTick s).events = s.events := rfl
@[simp] theorem fireTick_freeCnt (s : State) : (fireTick s).freeCnt = s.freeCnt := rfl

@[simp] theorem sendByte_qHigh (s : State) (h : s.txIdx < 12) : (sendByte s h).qHigh = s.qHigh := rfl
@[simp] theorem sendByte_qMid (s : State) (h : s.txIdx < 12) : (sendByte s h).qMid = s.qMid := rfl
@[simp] theorem sendByte_qLow (s : State) (h : s.txIdx < 12) : (sendByte s h).qLow = s.qLow := rfl
@[simp] theorem sendByte_tickCnt (s : State) (h : s.txIdx < 12) : (sendByte s h).tickCnt = s.tickCnt := rfl
@[simp] theorem sendByte_tickPend (s : State) (h : s.txIdx < 12) : (sendByte s h).tickPend = s.tickPend := rfl
@[simp] theorem sendByte_txFrame (s : State) (h : s.txIdx < 12) : (sendByte s h).txFrame = s.txFrame := rfl
@[simp] theorem sendByte_txIdx (s : State) (h : s.txIdx < 12) : (sendByte s h).txIdx = s.txIdx + 1 := rfl
@[simp] theorem sendByte_rxState (s : State) (h : s.txIdx < 12) : (sendByte s h).rxState = s.rxState := rfl
@[simp] theorem sendByte_rxBuf (s : State) (h : s.txIdx < 12) : (sendByte s h).rxBuf = s.rxBuf := rfl
@[simp] theorem sendByte_tlmRaw (s : State) (h : s.txIdx < 12) : (sendByte s h).tlmRaw = s.tlmRaw := rfl
@[simp] theorem sendByte_errFlags (s : State) (h : s.txIdx < 12) : (sendByte s h).errFlags = s.errFlags := rfl
@[simp] theorem sendByte_tlmValid (s : State) (h : s.txIdx < 12) : (sendByte s h).tlmValid = s.tlmValid := rfl
@[simp] theorem sendByte_diagChk (s : State) (h : s.txIdx < 12) : (sendByte s h).diagChk = s.diagChk := rfl
@[simp] theorem sendByte_diagDsy (s : State) (h : s.txIdx < 12) : (sendByte s h).diagDsy = s.diagDsy := rfl
@[simp] theorem sendByte_diagOvf (s : State) (h : s.txIdx < 12) : (sendByte s h).diagOvf = s.diagOvf := rfl
@[simp] theorem sendByte_txOut (s : State) (h : s.txIdx < 12) : (sendByte s h).txOut = s.txOut ++ [s.txFrame[s.txIdx]] := rfl
@[simp] theorem sendByte_tlmOut (s : State) (h : s.txIdx < 12) : (sendByte s h).tlmOut = s.tlmOut := rfl
@[simp] theorem sendByte_diagOut (s : State) (h : s.txIdx < 12) : (sendByte s h).diagOut = s.diagOut := rfl
@[simp] theorem sendByte_events (s : State) (h : s.txIdx < 12) : (sendByte s h).events = s.events := rfl
@[simp] theorem sendByte_freeCnt (s : State) (h : s.txIdx < 12) : (sendByte s h).freeCnt = s.freeCnt := rfl

@[simp] theorem resetAll_qHigh (c : Cfg) (s : State) : (resetAll c s).qHigh = [] := rfl
@[simp] theorem resetAll_qMid (c : Cfg) (s : State) : (resetAll c s).qMid = [] := rfl
@[simp] theorem resetAll_qLow (c : Cfg) (s : State) : (resetAll c s).qLow = [] := rfl
@[simp] theorem resetAll_tickCnt (c : Cfg) (s : State) : (resetAll c s).tickCnt = c.tickDiv - 1 := rfl
@[simp] theorem resetAll_tickPend (c : Cfg) (s : State) : (resetAll c s).tickPend = false := rfl
@[simp] theorem resetAll_txFrame (c : Cfg) (s : State) : (resetAll c s).txFrame = Config.freeFrame s.freeCnt := rfl
@[simp] theorem resetAll_txIdx (c : Cfg) (s : State) : (resetAll c s).txIdx = 12 := rfl
@[simp] theorem resetAll_rxState (c : Cfg) (s : State) : (resetAll c s).rxState = .idle := rfl
@[simp] theorem resetAll_rxBuf (c : Cfg) (s : State) : (resetAll c s).rxBuf = [] := rfl
@[simp] theorem resetAll_tlmRaw (c : Cfg) (s : State) : (resetAll c s).tlmRaw = 0 := rfl
@[simp] theorem resetAll_errFlags (c : Cfg) (s : State) : (resetAll c s).errFlags = 0 := rfl
@[simp] theorem resetAll_tlmValid (c : Cfg) (s : State) : (resetAll c s).tlmValid = false := rfl
@[simp] theorem resetAll_diagChk (c : Cfg) (s : State) : (resetAll c s).diagChk = false := rfl
@[simp] theorem resetAll_diagDsy (c : Cfg) (s : State) : (resetAll c s).diagDsy = false := rfl
@[simp] theorem resetAll_diagOvf (c : Cfg) (s : State) : (resetAll c s).diagOvf = 0 := rfl
@[simp] theorem resetAll_txOut (c : Cfg) (s : State) : (resetAll c s).txOut = s.txOut := rfl
@[simp] theorem resetAll_tlmOut (c : Cfg) (s : State) : (resetAll c s).tlmOut = s.tlmOut := rfl
@[simp] theorem resetAll_diagOut (c : Cfg) (s : State) : (resetAll c s).diagOut = s.diagOut := rfl
@[simp] theorem resetAll_events (c : Cfg) (s : State) : (resetAll c s).events = s.events := rfl
@[simp] theorem resetAll_freeCnt (c : Cfg) (s : State) : (resetAll c s).freeCnt = s.freeCnt := rfl

@[simp] theorem setQ_tickCnt (s : State) (t : Tier) (l : List Frame) : (s.setQ t l).tickCnt = s.tickCnt := by cases t <;> rfl
@[simp] theorem setQ_tickPend (s : State) (t : Tier) (l : List Frame) : (s.setQ t l).tickPend = s.tickPend := by cases t <;> rfl
@[simp] theorem setQ_txFrame (s : State) (t : Tier) (l : List Frame) : (s.setQ t l).txFrame = s.txFrame := by cases t <;> rfl
@[simp] theorem setQ_txIdx (s : State) (t : Tier) (l : List Frame) : (s.setQ t l).txIdx = s.txIdx := by cases t <;> rfl
@[simp] theorem setQ_rxState (s : State) (t : Tier) (l : List Frame) : (s.setQ t l).rxState = s.rxState := by cases t <;> rfl
@[simp] theorem setQ_rxBuf (s : State) (t : Tier) (l : List Frame) : (s.setQ t l).rxBuf = s.rxBuf := by cases t <;> rfl
@[simp] theorem setQ_tlmRaw (s : State) (t : Tier) (l : List Frame) : (s.setQ t l).tlmRaw = s.tlmRaw := by cases t <;> rfl
@[simp] theorem setQ_errFlags (s : State) (t : Tier) (l : List Frame) : (s.setQ t l).errFlags = s.errFlags := by cases t <;> rfl
@[simp] theorem setQ_tlmValid (s : State) (t : Tier) (l : List Frame) : (s.setQ t l).tlmValid = s.tlmValid := by cases t <;> rfl
@[simp] theorem setQ_diagChk (s : State) (t : Tier) (l : List Frame) : (s.setQ t l).diagChk = s.diagChk := by cases t <;> rfl
@[simp] theorem setQ_diagDsy (s : State) (t : Tier) (l : List Frame) : (s.setQ t l).diagDsy = s.diagDsy := by cases t <;> rfl
@[simp] theorem setQ_diagOvf (s : State) (t : Tier) (l : List Frame) : (s.setQ t l).diagOvf = s.diagOvf := by cases t <;> rfl
@[simp] theorem setQ_txOut (s : State) (t : Tier) (l : List Frame) : (s.setQ t l).txOut = s.txOut := by cases t <;> rfl
@[simp] theorem setQ_tlmOut (s : State) (t : Tier) (l : List Frame) : (s.setQ t l).tlmOut = s.tlmOut := by cases t <;> rfl
@[simp] theorem setQ_diagOut (s : State) (t : Tier) (l : List Frame) : (s.setQ t l).diagOut = s.diagOut := by cases t <;> rfl
@[simp] theorem setQ_events (s : State) (t : Tier) (l : List Frame) : (s.setQ t l).events = s.events := by cases t <;> rfl
@[simp] theorem setQ_freeCnt (s : State) (t : Tier) (l : List Frame) : (s.setQ t l).freeCnt = s.freeCnt := by cases t <;> rfl

@[simp] theorem setQ_q_self (s : State) (t : Tier) (l : List Frame) : (s.setQ t l).q t = l := by cases t <;> rfl

theorem setQ_q_other (s : State) (t u : Tier) (l : List Frame) (h : u ≠ t) : (s.setQ t l).q u = s.q u := by
  cases t <;> cases u <;> first | exact absurd rfl h | rfl

@[simp] theorem setQ_setQ (s : State) (t : Tier) (l l' : List Frame) : (s.setQ t l).setQ t l' = s.setQ t l' := by
  cases t <;> rfl

@[simp] theorem setQ_self (s : State) (t : Tier) : s.setQ t (s.q t) = s := by cases t <;> rfl

@[simp] theorem raise_q (e : Diag) (s : State) (t : Tier) : (raise e s).q t = s.q t := by cases t <;> rfl

@[simp] theorem deliverTlm_q (n : BitVec 16) (s : State) (t : Tier) : (deliverTlm n s).q t = s.q t := by cases t <;> rfl

@[simp] theorem pulsesLow_q (s : State) (t : Tier) : (pulsesLow s).q t = s.q t := by cases t <;> rfl

@[simp] theorem startCycle_q (es : List (List Byte)) (s : State) (t : Tier) : (startCycle es s).q t = s.q t := by
  cases t <;> rfl

@[simp] theorem rxToIdle_q (s : State) (t : Tier) : (rxToIdle s).q t = s.q t := by cases t <;> rfl

@[simp] theorem fireTick_q (s : State) (t : Tier) : (fireTick s).q t = s.q t := by cases t <;> rfl

@[simp] theorem sendByte_q (s : State) (h : s.txIdx < 12) (t : Tier) : (sendByte s h).q t = s.q t := by
  cases t <;> rfl

@[simp] theorem resetAll_q (c : Cfg) (s : State) (t : Tier) : (resetAll c s).q t = [] := by cases t <;> rfl

@[simp] theorem pulsesLow_idem (s : State) : pulsesLow (pulsesLow s) = pulsesLow s := rfl

/-- The pulse of `diag_ovf` moves only at an overflow. -/
theorem raise_diagOvf (e : Diag) (s : State) (h : ∀ t, e ≠ .queueOverflow t) : (raise e s).diagOvf = s.diagOvf := by
  cases e <;> first | rfl | exact absurd rfl (h _)

@[simp] theorem raise_overflow_diagOvf (t : Tier) (s : State) :
    (raise (.queueOverflow t) s).diagOvf = s.diagOvf ||| BitVec.twoPow 3 (ovfPulseBit t) := rfl

end Sys2Proof.Machine
end

