-- ==== Sys2Proof/Laws/Ops.lean ====
section
/-! SUPPORT. For each shared operation of Machine/Ops.lean, everything it can do, said once. -/

namespace Sys2Proof.Machine

open Host (Outcome)

/-- What `enqueue` can do. -/
theorem enqueue_cases (c : Cfg) (t : Tier) (f : Frame) (s : State) :
    ((s.q t).length < c.cap t ∧ enqueue c t f s = s.setQ t (s.q t ++ [f])) ∨
    (c.cap t ≤ (s.q t).length ∧ enqueue c t f s = raise (.queueOverflow t) (s.setQ t [f])) := by
  unfold enqueue
  split
  · exact .inl ⟨‹_›, rfl⟩
  · exact .inr ⟨Nat.le_of_not_lt ‹_›, rfl⟩

/-- What `dequeueNext` can do: nothing on empty tiers, or remove the head of the highest non-empty one. -/
theorem dequeueNext_cases (s : State) :
    (dequeueNext s = (none, s) ∧ ∀ t, s.q t = []) ∨
    (∃ f r, s.qHigh = f :: r ∧ dequeueNext s = (some f, s.setQ .high r)) ∨
    (∃ f r, s.qHigh = [] ∧ s.qMid = f :: r ∧ dequeueNext s = (some f, s.setQ .mid r)) ∨
    (∃ f r, s.qHigh = [] ∧ s.qMid = [] ∧ s.qLow = f :: r ∧ dequeueNext s = (some f, s.setQ .low r)) := by
  unfold dequeueNext
  cases hh : s.qHigh with
  | cons f r => exact .inr (.inl ⟨f, r, rfl, rfl⟩)
  | nil =>
    cases hm : s.qMid with
    | cons f r => exact .inr (.inr (.inl ⟨f, r, rfl, rfl, rfl⟩))
    | nil =>
      cases hl : s.qLow with
      | cons f r => exact .inr (.inr (.inr ⟨f, r, rfl, rfl, rfl, rfl⟩))
      | nil => exact .inl ⟨rfl, fun t => by cases t <;> assumption⟩

/-- What one clock of the timer can do. -/
theorem clockTimer_cases (c : Cfg) (s : State) :
    (s.tickCnt = 0 ∧ clockTimer c s = { s with tickCnt := c.tickDiv - 1, tickPend := true }) ∨
    (0 < s.tickCnt ∧ clockTimer c s = { s with tickCnt := s.tickCnt - 1 }) := by
  unfold clockTimer
  split
  · exact .inl ⟨‹_›, rfl⟩
  · exact .inr ⟨Nat.pos_of_ne_zero ‹_›, rfl⟩

/-- What the service of a tick can do: consume it, and load the frame that `dequeueNext` gives, if any. -/
theorem serviceTick_cases (s : State) :
    (dequeueNext { s with tickPend := false } = (none, { s with tickPend := false }) ∧ (∀ t, s.q t = []) ∧
      serviceTick s = { s with tickPend := false }) ∨
    (∃ t f r, s.q t = f :: r ∧ nextFrame s = some f ∧
      serviceTick s = { s.setQ t r with tickPend := false, txFrame := f, txIdx := 0 }) := by
  unfold serviceTick nextFrame
  rcases dequeueNext_cases s with ⟨h, he⟩ | ⟨f, r, h1, h⟩ | ⟨f, r, h1, h2, h⟩ | ⟨f, r, h1, h2, h3, h⟩
  · left
    have h1 : s.qHigh = [] := he .high
    have h2 : s.qMid = [] := he .mid
    have h3 : s.qLow = [] := he .low
    refine ⟨?_, he, ?_⟩ <;> simp [dequeueNext, h1, h2, h3]
  · exact .inr ⟨.high, f, r, h1, by rw [h], by simp [dequeueNext, h1, State.setQ]⟩
  · exact .inr ⟨.mid, f, r, h2, by rw [h], by simp [dequeueNext, h1, h2, State.setQ]⟩
  · exact .inr ⟨.low, f, r, h3, by rw [h], by simp [dequeueNext, h1, h2, h3, State.setQ]⟩

/-- What TXB can do. -/
theorem transmitByte_cases (s : State) :
    (∃ h : s.txIdx < 12, transmitByte s = .next (sendByte s h)) ∨
    (12 ≤ s.txIdx ∧ transmitByte s = .fault .txbNotEnabled) := by
  unfold transmitByte
  split
  · exact .inl ⟨‹_›, rfl⟩
  · exact .inr ⟨Nat.le_of_not_lt ‹_›, rfl⟩

/-- What SCHED can do. -/
theorem schedule_cases (s : State) :
    (s.tickPend = true ∧ s.txIdx = 12 ∧ schedule s = .next (serviceTick s)) ∨
    ((s.tickPend = false ∨ s.txIdx ≠ 12) ∧ schedule s = .fault .schedNotEnabled) := by
  by_cases hp : s.tickPend = true <;> by_cases hi : s.txIdx = 12 <;> simp_all [schedule, schedEnabled]

/-- What an RXB can do, branch for branch of R170. -/
theorem receiveByte_cases (b : Byte) (s : State) :
    (s.rxState = .idle ∧ b = Config.sync ∧ receiveByte b s = { s with rxState := .syncing, rxBuf := [b] }) ∨
    (s.rxState = .idle ∧ b ≠ Config.sync ∧ receiveByte b s = s) ∨
    (s.rxState = .syncing ∧ s.rxBuf.length = 2 ∧ b ≠ Config.rxMark ∧
      receiveByte b s = raise .framingDesync (rxToIdle s)) ∨
    (s.rxState = .syncing ∧ ∃ h : (s.rxBuf ++ [b]).length = 12,
      receiveByte b s = rxToIdle (rxVerdict (frameDecode (Frame.ofList (s.rxBuf ++ [b]) h)) s)) ∨
    (s.rxState = .syncing ∧ (s.rxBuf.length = 2 → b = Config.rxMark) ∧ s.rxBuf.length ≠ 11 ∧
      receiveByte b s = { s with rxBuf := s.rxBuf ++ [b] }) := by
  unfold receiveByte
  cases hs : s.rxState with
  | idle =>
    by_cases hb : b = Config.sync
    · exact .inl ⟨rfl, hb, if_pos hb⟩
    · exact .inr (.inl ⟨rfl, hb, if_neg hb⟩)
  | syncing =>
    refine .inr (.inr ?_)
    simp only
    have hlen : (s.rxBuf ++ [b]).length = s.rxBuf.length + 1 := by simp
    have at2 : s.rxBuf.length = 2 → (s.rxBuf ++ [b])[Config.rxMarkOff]? = some b := fun h2 => by
      show (s.rxBuf ++ [b])[2]? = some b
      rw [List.getElem?_append_right (by omega)]
      simp [h2]
    split
    · rename_i h
      have h2 : s.rxBuf.length = 2 := by omega
      refine .inl ⟨trivial, h2, ?_, rfl⟩
      intro hb
      exact h.2 ((at2 h2).trans (congrArg some hb))
    · rename_i h
      split
      · rename_i h12
        exact .inr (.inl ⟨trivial, h12, rfl⟩)
      · rename_i h12
        refine .inr (.inr ⟨trivial, ?_, by omega, rfl⟩)
        intro h2
        by_contra hb
        exact h ⟨by omega, fun h3 => hb (Option.some.inj ((at2 h2).symm.trans h3))⟩

/-- What the verdict of the twelfth byte can do. -/
theorem rxVerdict_cases (r : Except FrameError (BitVec 16)) (s : State) :
    (∃ n, r = .ok n ∧ rxVerdict r s = deliverTlm n s) ∨
    (∃ e, r = .error e ∧ rxVerdict r s = raise (frameErrorDiag e) s) := by
  cases r with
  | ok n => exact .inl ⟨n, rfl, rfl⟩
  | error e => exact .inr ⟨e, rfl, rfl⟩

/-- What a frame event can do. -/
theorem wireFrame_cases (way : Way) (f : Frame) (s : State) :
    (way = .inbound ∧ wireFrame way f s = .next (receiveBytes f.toList s)) ∨
    (way = .outbound ∧ s.txIdx = 12 ∧ nextFrame s = some f ∧ wireFrame way f s = .next (tickSend s)) ∨
    (way = .outbound ∧ (s.txIdx ≠ 12 ∨ nextFrame s ≠ some f) ∧ wireFrame way f s = .fault .frameNotNext) := by
  cases way with
  | inbound => exact .inl ⟨rfl, rfl⟩
  | outbound =>
    by_cases h : s.txIdx = 12 ∧ nextFrame s = some f
    · exact .inr (.inl ⟨rfl, h.1, h.2, by simp [wireFrame, h]⟩)
    · refine .inr (.inr ⟨rfl, by tauto, by simp [wireFrame, h]⟩)

/-- The bytes of a list are received one after the other. -/
@[simp] theorem receiveBytes_nil (s : State) : receiveBytes [] s = s := rfl

@[simp] theorem receiveBytes_cons (b : Byte) (bs : List Byte) (s : State) :
    receiveBytes (b :: bs) s = receiveBytes bs (receiveByte b (pulsesLow s)) := rfl

theorem receiveBytes_append (bs cs : List Byte) (s : State) :
    receiveBytes (bs ++ cs) s = receiveBytes cs (receiveBytes bs s) := by
  unfold receiveBytes
  rw [List.foldl_append]

/-- What `raise` does to the flags, bit for bit. -/
theorem setFlag_getLsbD (e : Diag) (fl : BitVec 8) (k : Nat) :
    (setFlag e fl).getLsbD k = (fl.getLsbD k || decide (k = flagBit e)) := by
  have : flagBit e < 8 := by rcases e with _ | _ | t | _ | _ <;> first | decide | (cases t <;> decide)
  by_cases hk : k < 8
  · by_cases h : flagBit e = k
    · simp [setFlag, h, hk]
    · simp [setFlag, h, Ne.symm h]
  · simp [setFlag, BitVec.getLsbD_of_ge, Nat.le_of_not_lt hk]
    omega

/-- What CLRERR does to the flags, bit for bit. -/
theorem clearFlags_getLsbD (mask fl : BitVec 8) (k : Nat) :
    (clearFlags mask fl).getLsbD k = (fl.getLsbD k && !(mask.getLsbD k)) := by
  by_cases hk : k < 8
  · simp [clearFlags, hk]
  · simp [clearFlags, BitVec.getLsbD_of_ge _ _ (Nat.le_of_not_lt hk)]

end Sys2Proof.Machine
end

