-- ==== Sys2Proof/Laws/Exec.lean ====
section
/-! SUPPORT. What receiving bytes, sending bytes and an operation leave alone, and what an operation that goes on
can do, said once for the whole dispatch. -/

namespace Sys2Proof.Machine

open Host (Outcome)
open Safety

/-- The fields that are not the receiver's, the error log's or the telemetry's. -/
structure SameOutsideRx (s t : State) : Prop where
  qHigh : t.qHigh = s.qHigh
  qMid : t.qMid = s.qMid
  qLow : t.qLow = s.qLow
  tickCnt : t.tickCnt = s.tickCnt
  tickPend : t.tickPend = s.tickPend
  txFrame : t.txFrame = s.txFrame
  txIdx : t.txIdx = s.txIdx
  txOut : t.txOut = s.txOut
  events : t.events = s.events
  freeCnt : t.freeCnt = s.freeCnt

theorem receiveByte_frame (b : Byte) (s : State) : SameOutsideRx s (receiveByte b s) := by
  rcases receiveByte_cases b s with ⟨_, _, h⟩ | ⟨_, _, h⟩ | ⟨_, _, _, h⟩ | ⟨_, h12, h⟩ | ⟨_, _, _, h⟩ <;> rw [h]
  case inr.inr.inr.inl =>
    rcases rxVerdict_cases (frameDecode (Frame.ofList (s.rxBuf ++ [b]) h12)) s with ⟨n, _, h2⟩ | ⟨e, _, h2⟩ <;>
      rw [h2] <;> constructor <;> rfl
  all_goals constructor <;> rfl

theorem receiveBytes_frame (bs : List Byte) (s : State) : SameOutsideRx s (receiveBytes bs s) := by
  induction bs generalizing s with
  | nil => constructor <;> rfl
  | cons b bs ih =>
    have h1 := ih (receiveByte b (pulsesLow s))
    have h2 := receiveByte_frame b (pulsesLow s)
    constructor
    · exact h1.qHigh.trans h2.qHigh
    · exact h1.qMid.trans h2.qMid
    · exact h1.qLow.trans h2.qLow
    · exact h1.tickCnt.trans h2.tickCnt
    · exact h1.tickPend.trans h2.tickPend
    · exact h1.txFrame.trans h2.txFrame
    · exact h1.txIdx.trans h2.txIdx
    · exact h1.txOut.trans h2.txOut
    · exact h1.events.trans h2.events
    · exact h1.freeCnt.trans h2.freeCnt

theorem transmitBytes_succ (k : Nat) (s : State) (h : (pulsesLow s).txIdx < 12) :
    transmitBytes (k + 1) s = transmitBytes k (sendByte (pulsesLow s) h) := dif_pos h

/-- The unsent bytes, with the next one in front. -/
theorem unsent_cons (s : State) (h : s.txIdx < 12) :
    s.txFrame.toList.drop s.txIdx = s.txFrame[s.txIdx] :: s.txFrame.toList.drop (s.txIdx + 1) := by
  rw [List.drop_eq_getElem_cons (by simpa using h)]
  simp

/-- As many TXBs as bytes are left send them all. -/
theorem transmitBytes_rest (k : Nat) (s : State) (h : s.txIdx + k = 12) (hk : k ≠ 0) :
    transmitBytes k s = { pulsesLow s with txIdx := 12, txOut := s.txOut ++ s.txFrame.toList.drop s.txIdx } := by
  induction k generalizing s with
  | zero => exact absurd rfl hk
  | succ k ih =>
    have hlt : s.txIdx < 12 := by omega
    have hlt' : (pulsesLow s).txIdx < 12 := hlt
    rw [transmitBytes_succ k s hlt', unsent_cons s hlt]
    cases k with
    | zero =>
      have h11 : s.txIdx = 11 := by omega
      simp [transmitBytes, sendByte, h11]
    | succ k =>
      rw [ih (sendByte (pulsesLow s) hlt') (by simp; omega) (by omega)]
      simp [sendByte, pulsesLow]

/-- What an operation that goes on can do. -/
theorem exec_next_cases (i : Instr) (s t : State) (h : exec i s = .next t) :
    (∃ u f, submission i = some (u, f) ∧ t = enqueue Config.cfg u f s) ∨
    (i = .reset ∧ t = resetAll Config.cfg s) ∨
    (∃ m, i = .clrerr m ∧ t = { s with errFlags := clearFlags m s.errFlags }) ∨
    (∃ b, i = .rxb b ∧ t = receiveByte b s) ∨ (i = .rxe ∧ t = s) ∨
    (i = .txb ∧ ∃ h : s.txIdx < 12, t = sendByte s h) ∨ (i = .clk ∧ t = clockTimer Config.cfg s) ∨
    (i = .tick ∧ t = fireTick s) ∨ (i = .sched ∧ s.tickPend = true ∧ s.txIdx = 12 ∧ t = serviceTick s) ∨
    (inbound i = true ∧ ∃ f : Frame, t = receiveBytes f.toList s) ∨
    (outbound i = true ∧ ∃ f : Frame, s.txIdx = 12 ∧ nextFrame s = some f ∧ t = tickSend s) := by
  have wire : ∀ (way : Way) (f : Frame), wireFrame way f s = .next t →
      (way = .inbound ∧ t = receiveBytes f.toList s) ∨
      (way = .outbound ∧ s.txIdx = 12 ∧ nextFrame s = some f ∧ t = tickSend s) := by
    intro way f hw
    rcases wireFrame_cases way f s with ⟨hd, h2⟩ | ⟨hd, h1, h3, h2⟩ | ⟨_, _, h2⟩ <;> rw [h2] at hw <;> cases hw
    · exact .inl ⟨hd, rfl⟩
    · exact .inr ⟨hd, h1, h3, rfl⟩
  cases i with
  | submitRaw u f => cases h; exact .inl ⟨u, f, rfl, rfl⟩
  | submitEnc u c p => cases h; exact .inl ⟨u, _, rfl, rfl⟩
  | submitVel u w => cases h; exact .inl ⟨u, _, rfl, rfl⟩
  | submitAng u w => cases h; exact .inl ⟨u, _, rfl, rfl⟩
  | submitRot u m => cases h; exact .inl ⟨u, _, rfl, rfl⟩
  | reset => cases h; exact .inr (.inl ⟨rfl, rfl⟩)
  | clrerr m => cases h; exact .inr (.inr (.inl ⟨m, rfl, rfl⟩))
  | rxb b => cases h; exact .inr (.inr (.inr (.inl ⟨b, rfl, rfl⟩)))
  | rxe => cases h; exact .inr (.inr (.inr (.inr (.inl ⟨rfl, rfl⟩))))
  | txb =>
    refine .inr (.inr (.inr (.inr (.inr (.inl ⟨rfl, ?_⟩)))))
    change transmitByte s = _ at h
    rcases transmitByte_cases s with ⟨h1, h2⟩ | ⟨_, h2⟩ <;> rw [h2] at h <;> cases h
    exact ⟨h1, rfl⟩
  | clk => cases h; exact .inr (.inr (.inr (.inr (.inr (.inr (.inl ⟨rfl, rfl⟩))))))
  | tick => cases h; exact .inr (.inr (.inr (.inr (.inr (.inr (.inr (.inl ⟨rfl, rfl⟩)))))))
  | sched =>
    change schedule s = _ at h
    rcases schedule_cases s with ⟨h0, h1, h2⟩ | ⟨_, h2⟩ <;> rw [h2] at h <;> cases h
    exact .inr (.inr (.inr (.inr (.inr (.inr (.inr (.inr (.inl ⟨rfl, h0, h1, rfl⟩))))))))
  | cmd way c cs p =>
    rcases wire way _ h with ⟨rfl, e⟩ | ⟨rfl, h1, h2, e⟩
    · exact .inr (.inr (.inr (.inr (.inr (.inr (.inr (.inr (.inr (.inl ⟨rfl, _, e⟩)))))))))
    · exact .inr (.inr (.inr (.inr (.inr (.inr (.inr (.inr (.inr (.inr ⟨rfl, _, h1, h2, e⟩)))))))))
  | cmdVelocity way cs w =>
    rcases wire way _ h with ⟨rfl, e⟩ | ⟨rfl, h1, h2, e⟩
    · exact .inr (.inr (.inr (.inr (.inr (.inr (.inr (.inr (.inr (.inl ⟨rfl, _, e⟩)))))))))
    · exact .inr (.inr (.inr (.inr (.inr (.inr (.inr (.inr (.inr (.inr ⟨rfl, _, h1, h2, e⟩)))))))))
  | cmdAngle way cs w =>
    rcases wire way _ h with ⟨rfl, e⟩ | ⟨rfl, h1, h2, e⟩
    · exact .inr (.inr (.inr (.inr (.inr (.inr (.inr (.inr (.inr (.inl ⟨rfl, _, e⟩)))))))))
    · exact .inr (.inr (.inr (.inr (.inr (.inr (.inr (.inr (.inr (.inr ⟨rfl, _, h1, h2, e⟩)))))))))
  | cmdRotate way cs m =>
    rcases wire way _ h with ⟨rfl, e⟩ | ⟨rfl, h1, h2, e⟩
    · exact .inr (.inr (.inr (.inr (.inr (.inr (.inr (.inr (.inr (.inl ⟨rfl, _, e⟩)))))))))
    · exact .inr (.inr (.inr (.inr (.inr (.inr (.inr (.inr (.inr (.inr ⟨rfl, _, h1, h2, e⟩)))))))))
  | tlm cls cs u4 u5 u6 u7 a u10 u11 =>
    rcases wire .inbound _ h with ⟨_, e⟩ | ⟨h0, _⟩
    · exact .inr (.inr (.inr (.inr (.inr (.inr (.inr (.inr (.inr (.inl ⟨rfl, _, e⟩)))))))))
    · cases h0

/-- A run of operations that goes on, taken apart at its first operation. -/
theorem runOps_cons_next (i : Instr) (is : List Instr) (s t : State) :
    runOps (i :: is) s = .next t ↔ ∃ s', exec i s = .next s' ∧ runOps is s' = .next t := by
  simp only [runOps]
  cases exec i s <;> simp

end Sys2Proof.Machine
end

