-- ==== Sys2Proof/Laws/PerInstr.lean ====
section
/-! SUPPORT. Facts about every operation as syntax, one lemma for each constructor. -/

namespace Sys2Proof.Laws.RecordFits

open Machine

/-- The record of an operation is neither empty nor longer than 13 bytes, the opcode and `sub_data`. -/
def Statement (i : Instr) : Prop := 1 ≤ (encode i).length ∧ (encode i).length ≤ 13

theorem submitRaw (t : Tier) (f : Frame) : Statement (.submitRaw t f) := by simp [Statement, encode]

theorem submitEnc (t : Tier) (c : Byte) (p : Payload) : Statement (.submitEnc t c p) := by simp [Statement, encode]

theorem submitVel (t : Tier) (w : BitVec 32) : Statement (.submitVel t w) := by simp [Statement, encode, f32le]

theorem submitAng (t : Tier) (w : BitVec 32) : Statement (.submitAng t w) := by simp [Statement, encode, f32le]

theorem submitRot (t : Tier) (m : Byte) : Statement (.submitRot t m) := by simp [Statement, encode]

theorem reset : Statement .reset := by simp [Statement, encode]

theorem clrerr (m : Byte) : Statement (.clrerr m) := by simp [Statement, encode]

theorem rxb (b : Byte) : Statement (.rxb b) := by simp [Statement, encode]

theorem rxe : Statement .rxe := by simp [Statement, encode]

theorem txb : Statement .txb := by simp [Statement, encode]

theorem clk : Statement .clk := by simp [Statement, encode]

theorem tick : Statement .tick := by simp [Statement, encode]

theorem sched : Statement .sched := by simp [Statement, encode]

theorem wireRecord_fits (way : Way) (f : Frame) :
    1 ≤ (wireRecord way f).length ∧ (wireRecord way f).length ≤ 13 := by
  cases way <;> simp [wireRecord]

theorem cmd (way : Way) (c cs : Byte) (p : Payload) : Statement (.cmd way c cs p) := wireRecord_fits _ _

theorem cmdVelocity (way : Way) (cs : Byte) (w : BitVec 32) : Statement (.cmdVelocity way cs w) := wireRecord_fits _ _

theorem cmdAngle (way : Way) (cs : Byte) (w : BitVec 32) : Statement (.cmdAngle way cs w) := wireRecord_fits _ _

theorem cmdRotate (way : Way) (cs m : Byte) : Statement (.cmdRotate way cs m) := wireRecord_fits _ _

theorem tlm (cls cs u4 u5 u6 u7 : Byte) (angle : BitVec 16) (u10 u11 : Byte) :
    Statement (.tlm cls cs u4 u5 u6 u7 angle u10 u11) :=
  wireRecord_fits .inbound (tlmFrame cls cs u4 u5 u6 u7 angle u10 u11)

end Sys2Proof.Laws.RecordFits
end

