-- ==== Sys2Proof/Tests/Slice0.lean ====
section
/-! SUPPORT. Our own tests: the WellFormed smoke, one record written out for each row of the opcode table, the
spec's vectors (95_test_vectors) on single operations, and for each statement a witness of its hypotheses. -/

namespace Sys2Proof.Tests

open Machine Safety

/-! WellFormed refuses an ill-formed term of each check (entry 5). -/

theorem test_wf_refuses_velocity_as_cmd : (Instr.cmd .inbound 0x0E 0 #v[1, 2, 3, 4, 0, 0, 0, 0]).wellFormed = false := by decide
theorem test_wf_refuses_angle_as_cmd : (Instr.cmd .outbound 0x0F 0 #v[1, 2, 3, 4, 0, 0, 0, 0]).wellFormed = false := by decide
theorem test_wf_refuses_rotate_as_cmd : (Instr.cmd .inbound 0x10 0 #v[7, 0, 0, 0, 0, 0, 0, 0]).wellFormed = false := by decide
theorem test_wf_refuses_telemetry_as_cmd : (Instr.cmd .inbound 0x01 0 #v[1, 2, 3, 4, 5, 6, 7, 8]).wellFormed = false := by decide

/-! Decoding, each record written out by hand from R84 to R87 and the FRAME rows. -/

/-- `000 01`, SUBMIT.RAW Mid; frame byte i in bits 8i+7:8i of sub_data. -/
theorem test_decode_submitRaw : decode [0b00000001, 0x99, 0x02, 0x10, 0xAC, 1, 0, 0, 0, 0, 0, 0, 9] =
    .ok (.submitRaw .mid #v[0x99, 0x02, 0x10, 0xAC, 1, 0, 0, 0, 0, 0, 0, 9]) := by decide
/-- `001 10`, SUBMIT.ENC Low; id in bits 7:0, payload j in bits 8j+15:8j+8. -/
theorem test_decode_submitEnc : decode [0b00000110, 0xFF, 1, 2, 3, 4, 5, 6, 7, 8, 0xEE, 0xEE, 0xEE] =
    .ok (.submitEnc .low 0xFF #v[1, 2, 3, 4, 5, 6, 7, 8]) := by decide
/-- `010 00`, program P1 line 1. -/
theorem test_decode_submitVel : decode [0b00001000, 0x00, 0x00, 0x20, 0xC0, 0, 0, 0, 0, 0, 0, 0, 0] =
    .ok (.submitVel .high 0xC0200000) := by decide
/-- `011 01`, program P2 line 2. -/
theorem test_decode_submitAng : decode [0b00001101, 0x00, 0x00, 0xB4, 0x42, 0, 0, 0, 0, 0, 0, 0, 0] =
    .ok (.submitAng .mid 0x42B40000) := by decide
/-- `100 00`, program P3. -/
theorem test_decode_submitRot : decode [0b00010000, 0x01, 0, 0, 0, 0, 0, 0, 0, 0, 0, 0, 0] =
    .ok (.submitRot .high 0x01) := by decide
theorem test_decode_reset : decode [0b00100001] = .ok .reset := by decide
theorem test_decode_clrerr : decode [0b00100101, 0x04] = .ok (.clrerr 0x04) := by decide
theorem test_decode_rxb : decode [0b00101001, 0x99] = .ok (.rxb 0x99) := by decide
theorem test_decode_rxe : decode [0b00101000] = .ok .rxe := by decide
theorem test_decode_txb : decode [0b00101111] = .ok .txb := by decide
theorem test_decode_clk : decode [0b00110001] = .ok .clk := by decide
theorem test_decode_tick : decode [0b00110101] = .ok .tick := by decide
theorem test_decode_sched : decode [0b00111011] = .ok .sched := by decide
/-- V-EN3's frame, a command id without a payload meaning. -/
theorem test_decode_cmd : decode [0x99, 0x02, 0xFF, 0x92, 1, 2, 3, 4, 5, 6, 7, 8] =
    .ok (.cmd .inbound 0xFF 0x92 #v[1, 2, 3, 4, 5, 6, 7, 8]) := by decide
/-- V-BV1's frame, outbound. -/
theorem test_decode_cmdVelocity : decode [0x40, 0x99, 0x02, 0x0E, 0x89, 0x00, 0x00, 0x20, 0xC0, 0, 0, 0, 0] =
    .ok (.cmdVelocity .outbound 0x89 0xC0200000) := by decide
/-- V-BA1's frame. -/
theorem test_decode_cmdAngle : decode [0x99, 0x02, 0x0F, 0xA0, 0x00, 0x00, 0xB4, 0x42, 0, 0, 0, 0] =
    .ok (.cmdAngle .inbound 0xA0 0x42B40000) := by decide
/-- V-BR1's frame. -/
theorem test_decode_cmdRotate : decode [0x99, 0x02, 0x10, 0xAC, 0x01, 0, 0, 0, 0, 0, 0, 0] =
    .ok (.cmdRotate .inbound 0xAC 0x01) := by decide
/-- V-DE8's frame: angle 0x1234 with the low byte at offset 8. -/
theorem test_decode_tlm : decode [0x99, 0x01, 0x01, 0xE1, 0, 0, 0, 0, 0x34, 0x12, 0, 0] =
    .ok (.tlm 0x01 0xE1 0 0 0 0 0x1234 0 0) := by decide
/-- V-X1 and V-X2. -/
theorem test_decode_reservedKind : decode (0b00010100 :: List.replicate 12 0) = .error (.reservedKind 0b10100) := by decide
theorem test_decode_reservedTier : decode (0b00001011 :: List.replicate 12 0) = .error (.reservedTier 0b01011) := by decide
theorem test_decode_notStrobed : decode [0b00101110] = .error (.notStrobed 0b00101110) := by decide
theorem test_decodeTableWord : decodeTableWord 96 0x000000000000000000100299 = some (.cmdRotate .inbound 0 0) := by decide

/-! FCG, vectors of section 2.1 to 2.3. -/

theorem test_csum_wraps : csum #v[0xFF, 0xFF, 0xFF, 0xF5, 0xFF, 0xFF, 0xFF, 0xFF, 0xFF, 0xFF, 0xFF, 0xFF] = 0xF5 := by decide
theorem test_encode_en3 : frameEncode 0xFF #v[0xFF, 0xFF, 0xFF, 0xFF, 0xFF, 0xFF, 0xFF, 0xFF] =
    #v[0x99, 0x02, 0xFF, 0x92, 0xFF, 0xFF, 0xFF, 0xFF, 0xFF, 0xFF, 0xFF, 0xFF] := by decide
theorem test_buildVel_bv4 : buildVel 0x3DCCCCCD = #v[0x99, 0x02, 0x0E, 0x4B, 0xCD, 0xCC, 0xCC, 0x3D, 0, 0, 0, 0] := by decide
theorem test_buildAng_ba2 : buildAng 0xC3340000 = #v[0x99, 0x02, 0x0F, 0xA1, 0, 0, 0x34, 0xC3, 0, 0, 0, 0] := by decide
theorem test_buildRot_br3 : buildRot 0xFF = #v[0x99, 0x02, 0x10, 0xAA, 0xFF, 0, 0, 0, 0, 0, 0, 0] := by decide
theorem test_decode_de4 : frameDecode #v[0x99, 0x01, 0x01, 0x19, 0, 0, 0, 0, 0xFF, 0x7F, 0, 0] = .ok 0x7FFF := by decide
theorem test_decode_de13 : frameDecode #v[0x99, 0x01, 0x00, 0xDA, 0, 0, 0, 0, 0, 0x40, 0, 0] = .error .framingDesync := by decide
theorem test_angleF32_lowest : angleF32 0x8000 = 0xC3340000 := by decide
theorem test_angleF32_highest : angleF32 0x7FFF = 0x4333FE98 := by decide
theorem test_angleF32_minus_one : angleF32 0xFFFF = 0xBBB40000 := by decide
theorem test_angleF32_de8 : angleF32 0x1234 = 0x41CCC900 := by decide

/-! Single operations, vectors of section 2.4 to 2.7. -/

/-- Frames F1 to F5 of section 2.4. -/
def rot (m : Byte) : Frame := buildRot m

/-- High full, Mid with four frames, Low with nine (V-Q3, V-Q8). -/
def queued : State :=
  { State.reset with qHigh := [rot 1, rot 2, rot 3], qMid := List.replicate 4 (rot 5), qLow := List.replicate 9 (rot 5) }

/-- A frame in flight with one byte left (V-T11). -/
def sending : State :=
  { State.reset with txFrame := buildVel 0xC0200000, txIdx := 11, tickPend := true, qHigh := [rot 1] }

/-- A tick pending and the transmitter idle, one frame in Mid and one in Low (V-Q10, R153). -/
def ticked : State := { State.reset with tickPend := true, qMid := [rot 2], qLow := [rot 3] }

/-- The receiver before the twelfth byte (V-RX7). -/
def eleven : State :=
  { State.reset with rxState := .syncing, rxBuf := [0x99, 0x01, 0x01, 0xDB, 0, 0, 0, 0, 0, 0x40, 0] }

/-- A state at the edge of every invariant. -/
def edge : State :=
  { State.reset with
    qHigh := [rot 1, rot 2, rot 3], tickCnt := 0, rxState := .syncing
    rxBuf := [0x99, 0x01, 0x01, 0xDB, 0, 0, 0, 0, 0, 0x40, 0], errFlags := 0x1F, events := [[0x29, 0x00]] }

theorem test_submitRaw_verbatim : (stateOf (exec (.submitRaw .mid (rot 1)) State.reset)).map (·.qMid) = some [rot 1] := by decide
theorem test_submitRot_overflow : (stateOf (exec (.submitRot .high 4) queued)).map (fun s => (s.qHigh, s.errFlags, s.diagOut)) =
    some ([rot 4], 0x04, [.queueOverflow .high]) := by decide
theorem test_submitEnc_low : (stateOf (exec (.submitEnc .low 0xFF (Vector.replicate 8 0xFF)) State.reset)).map (·.qLow) =
    some [#v[0x99, 0x02, 0xFF, 0x92, 0xFF, 0xFF, 0xFF, 0xFF, 0xFF, 0xFF, 0xFF, 0xFF]] := by decide
theorem test_submitVel_high : (stateOf (exec (.submitVel .high 0xC0200000) State.reset)).map (·.qHigh) =
    some [#v[0x99, 0x02, 0x0E, 0x89, 0, 0, 0x20, 0xC0, 0, 0, 0, 0]] := by decide
theorem test_submitAng_mid : (stateOf (exec (.submitAng .mid 0x42B40000) State.reset)).map (·.qMid) =
    some [#v[0x99, 0x02, 0x0F, 0xA0, 0, 0, 0xB4, 0x42, 0, 0, 0, 0]] := by decide
theorem test_reset_keeps_traces : (stateOf (exec .reset { sending with txOut := [1, 2], errFlags := 7 })).map
    (fun s => (s.txOut, s.txIdx, s.errFlags, s.qHigh)) = some ([1, 2], 12, 0, []) := by decide
theorem test_clrerr_s2 : (stateOf (exec (.clrerr 0x01) { State.reset with errFlags := 0x05 })).map (·.errFlags) = some 0x04 := by decide
theorem test_rxb_sync : (stateOf (exec (.rxb 0x99) State.reset)).map (fun s => (s.rxState, s.rxBuf)) =
    some (.syncing, [0x99]) := by decide
theorem test_rxb_twelfth : (stateOf (exec (.rxb 0x00) eleven)).map (fun s => (s.tlmRaw, s.tlmOut, s.rxState, s.rxBuf)) =
    some (0x4000, [0x4000], .idle, []) := by decide
theorem test_rxe_keeps_partial_frame : (stateOf (exec .rxe eleven)).map (·.rxBuf) = some eleven.rxBuf := by decide
theorem test_txb_last_byte : (stateOf (exec .txb sending)).map (fun s => (s.txOut, s.txIdx)) = some ([0x00], 12) := by decide
theorem test_clk_coalesces : (clockTimer { capHigh := 3, capMid := 5, capLow := 10, tickDiv := 4 }
    { State.reset with tickCnt := 0, tickPend := true }).tickCnt = 3 := by decide
theorem test_tick_sets_pending : (stateOf (exec .tick State.reset)).map (·.tickPend) = some true := by decide
theorem test_sched_prefers_mid : (stateOf (exec .sched ticked)).map (fun s => (s.txFrame, s.txIdx, s.qMid, s.qLow)) =
    some (rot 2, 0, [], [rot 3]) := by decide
theorem test_tlm_delivers : (stateOf (exec (.tlm 0 0xDA 0 0 0 0 0x4000 0 0) State.reset)).map (fun s => (s.tlmOut, s.tlmValid)) =
    some ([0x4000], true) := by decide
theorem test_cmd_echo_desyncs : (stateOf (exec (.cmdRotate .inbound 0xAC 1) State.reset)).map (fun s => (s.errFlags, s.rxState)) =
    some (0x02, .idle) := by decide
theorem test_cmd_outbound_sends : (stateOf (exec (.cmdRotate .outbound 0xAD 2) { ticked with tickPend := false })).map
    (fun s => (s.txOut, s.txIdx, s.qMid)) = some ((rot 2).toList, 12, []) := by decide
theorem test_sched_not_enabled : stateOf (exec .sched sending) = none := by decide

/-- The opcode table's word of CMD.ROTATE, fetched by the first step after reset. -/
theorem test_withFetchWord : (stateOf (step (State.reset.withFetchWord 96 0x100299))).map (·.errFlags) = some 0x02 := by decide

/-! Witnesses: for each statement with hypotheses, a state and operands that meet them, at the ends of ranges. -/

theorem witness_DecodeInvertsEncode :
    (Instr.cmd .outbound 0x01 0 #v[0, 0, 0, 0, 0, 0, 0, 0]).wellFormed = true ∧
    (Instr.cmd .inbound 0x0E 0 #v[0, 0, 0, 0, 0, 0, 0, 1]).wellFormed = true := by decide

theorem witness_WireDecodingFollowsFrameRows :
    (∃ i, decodeWire .inbound (rot 1).toList = .ok i) ∧ (∃ r ∈ frameRows, r.fits (rot 1) = true) ∧
    (∃ i, decode (0x40 :: (rot 1).toList) = .ok i) ∧ ∃ r ∈ frameRows, r.mnemonic ≠ "TLM" ∧ r.fits (rot 1) = true := by
  refine ⟨⟨.cmdRotate .inbound 0xAC 1, by decide⟩, by decide, ⟨.cmdRotate .outbound 0xAC 1, by decide⟩, by decide⟩

/-- A state that presents one submission with the given opcode. -/
def presenting (op : Byte) : State := { State.reset with events := [op :: List.replicate 12 0] }

/-- The opcodes are the first reserved kind, the last opcode, the first and the last reserved tier of a defined
kind, and one of each defined kind, with each tier. -/
theorem witness_ReservedSubmissionsRefused :
    (∀ op ∈ [(0x14 : Byte), 0x1F, 0x03, 0x13, 0x00, 0x05, 0x0A, 0x0C, 0x12], op.toNat < 32 ∧
      (presenting op).events = [[op, 0, 0, 0, 0, 0, 0, 0, 0, 0, 0, 0, 0]]) ∧
    5 ≤ (0x14 : Byte).toNat / 4 ∧ 5 ≤ (0x1F : Byte).toNat / 4 ∧
    (0x03 : Byte).toNat / 4 < 5 ∧ (0x03 : Byte).toNat % 4 = 3 ∧ (0x13 : Byte).toNat / 4 < 5 ∧ (0x13 : Byte).toNat % 4 = 3 ∧
    (0x00 : Byte).toNat / 4 = 0 ∧ (0x00 : Byte).toNat % 4 = 0 ∧ (0x05 : Byte).toNat / 4 = 1 ∧ (0x05 : Byte).toNat % 4 = 1 ∧
    (0x0A : Byte).toNat / 4 = 2 ∧ (0x0A : Byte).toNat % 4 = 2 ∧ (0x0C : Byte).toNat / 4 = 3 ∧ (0x0C : Byte).toNat % 4 = 0 ∧
    (0x12 : Byte).toNat / 4 = 4 ∧ (0x12 : Byte).toNat % 4 = 2 := by
  refine ⟨?_, by decide⟩
  intro op h
  fin_cases h <;> exact ⟨by decide, rfl⟩

theorem witness_StepRunsTheDecodedOperation :
    decode [0x28] = .ok .rxe ∧ decode [0x20] = .error (.notStrobed 0x20) ∧
    ({ State.reset with events := [[0x28]] } : State).events = [[0x28]] := by decide

theorem witness_StepWithNothingPresentedIsOneClock : State.reset.events = [] := by decide

theorem witness_ScheduleRunsInOrder :
    (∀ i ∈ [Instr.rxb 0x99, .tick], i.wellFormed = true) ∧
    ({ State.reset with events := [[0x29, 0x99], [0x35]] } : State).events = [Instr.rxb 0x99, .tick].map encode := by
  decide

theorem witness_SubmitAppendsWhenTheTierHasRoom :
    (({ queued with qHigh := [rot 1, rot 2] } : State).q .high).length < Config.cfg.cap .high ∧
    (queued.q .mid).length < Config.cfg.cap .mid ∧ (queued.q .low).length < Config.cfg.cap .low := by decide

theorem witness_SubmitDropsTheTierOnOverflow :
    Config.cfg.cap .high ≤ (queued.q .high).length ∧
    Config.cfg.cap .mid ≤ (({ queued with qMid := List.replicate 5 (rot 5) } : State).q .mid).length ∧
    Config.cfg.cap .low ≤ (({ queued with qLow := List.replicate 10 (rot 5) } : State).q .low).length := by decide

theorem witness_EnqueuesFromEmptyLeaveTheLastRun :
    ({ capHigh := 1, capMid := 5, capLow := 10, tickDiv := 1 } : Cfg).Valid ∧ State.reset.q .high = [] ∧ [rot 1] ≠ [] :=
  ⟨⟨fun t => by cases t <;> decide, by decide⟩, rfl, by decide⟩

theorem witness_DequeueOrderIsHighMidLow :
    ({ capHigh := 1, capMid := 1, capLow := 1, tickDiv := 1 } : Cfg).Valid ∧ (∀ t, State.reset.q t = []) ∧
    [(Tier.low, rot 3), (Tier.mid, rot 2), (Tier.high, rot 1)].Perm [(.high, rot 1), (.mid, rot 2), (.low, rot 3)] :=
  ⟨⟨fun t => by cases t <;> decide, by decide⟩, fun t => by cases t <;> rfl, by decide⟩

/-- A full ring of one slot. -/
theorem witness_RingBufferRefinesTheTier : ({ slots := [rot 1], rd := 0, wr := 0, count := 1 } : Ring).Wf 1 :=
  ⟨rfl, by decide, by decide, by decide⟩

theorem witness_ByteRegistersRefineTheReceiveBuffer :
    ({ regs := rot 1, len := 11 } : RxRegs).len < 12 ∧ ({ regs := rot 1, len := 12 } : RxRegs).len ≤ 12 := by decide

theorem witness_TickFiresEveryTickDivClocks :
    State.reset.tickCnt = Config.tickDiv - 1 ∧ 0 < Config.tickDiv ∧ edge.tickCnt = 0 ∧
    ({ edge with tickCnt := 1 } : State).tickCnt = 0 + 1 := ⟨rfl, Nat.succ_pos _, rfl, rfl⟩

theorem witness_TimedRunIsAnUntimedRun : ∃ t, runOps [.clk, .tick, .rxe] edge = .next t := ⟨_, rfl⟩

theorem witness_SchedLoadsTheHighestPriorityHead :
    ticked.tickPend = true ∧ ticked.txIdx = 12 ∧ ticked.qHigh = [] ∧ ticked.qMid = [rot 2] ∧
    ({ ticked with qHigh := [rot 1] } : State).qHigh = [rot 1] ∧
    ({ ticked with qMid := [] } : State).qMid = [] ∧ ({ ticked with qMid := [] } : State).qLow = [rot 3] ∧
    ({ ticked with qMid := [], qLow := [] } : State).qLow = [] := by decide

theorem witness_TxbSendsTheByteAtTxIdx : sending.txIdx < 12 ∧ ({ sending with txIdx := 0 } : State).txIdx < 12 := by decide

theorem witness_WholeTickSendsOneFrame :
    State.reset.txIdx = 12 ∧ State.reset.qHigh = [] ∧ State.reset.qMid = [] ∧ State.reset.qLow = [] ∧
    queued.txIdx = 12 ∧ queued.qHigh = [rot 1, rot 2, rot 3] ∧
    ticked.txIdx = 12 ∧ ticked.qHigh = [] ∧ ticked.qMid = [rot 2] ∧
    ({ ticked with qMid := [] } : State).qMid = [] ∧ ({ ticked with qMid := [] } : State).qLow = [rot 3] := by decide

theorem witness_FrameInFlightIsNotDisturbed : sending.txIdx < 12 ∧ ∃ t, exec .tick sending = .next t := ⟨by decide, _, rfl⟩

theorem witness_TransmittedBytesAreLoadedFrames :
    Instr.reset ∉ [Instr.sched, .txb] ∧ ∃ t, runOps [.sched, .txb] ticked = .next t := ⟨by decide, _, rfl⟩

theorem witness_TierIsFirstInFirstOut :
    Instr.reset ∉ [Instr.submitRot .mid 4, .sched] ∧ ∃ t, runOps [.submitRot .mid 4, .sched] ticked = .next t ∧
    Diag.queueOverflow .mid ∉ t.diagOut.drop ticked.diagOut.length := ⟨by decide, _, rfl, by decide⟩

theorem witness_FramesLoadedAreBoundedByTicks : ∃ t, runOps [.sched, .tick] ticked = .next t := ⟨_, rfl⟩

theorem witness_OutboundCommandFrameIsSentWhole :
    State.reset.txIdx = 12 ∧
    nextFrame { State.reset with qLow := [#v[0x99, 0x02, 0x01, 0, 1, 2, 3, 4, 5, 6, 7, 8]] } =
      some #v[0x99, 0x02, 0x01, 0, 1, 2, 3, 4, 5, 6, 7, 8] ∧
    nextFrame { State.reset with qHigh := [buildVel 0xC0200000] } = some #v[0x99, 0x02, 0x0E, 0x89, 0, 0, 0x20, 0xC0, 0, 0, 0, 0] ∧
    nextFrame { State.reset with qMid := [buildAng 0x42B40000] } = some #v[0x99, 0x02, 0x0F, 0xA0, 0, 0, 0xB4, 0x42, 0, 0, 0, 0] ∧
    nextFrame { State.reset with qHigh := [rot 1] } = some #v[0x99, 0x02, 0x10, 0xAC, 1, 0, 0, 0, 0, 0, 0, 0] := by decide

theorem witness_IdleReceiverHuntsForSync : State.reset.rxState = .idle ∧ (0x98 : Byte) ≠ 0x99 := by decide

theorem witness_SyncingReceiverAppendsAnyByte :
    ∀ k ∈ [1, 3, 10], ({ eleven with rxBuf := eleven.rxBuf.take k } : State).rxState = .syncing ∧
      (({ eleven with rxBuf := eleven.rxBuf.take k } : State).rxBuf.length + 1 = 2 ∨
        (4 ≤ ({ eleven with rxBuf := eleven.rxBuf.take k } : State).rxBuf.length + 1 ∧
          ({ eleven with rxBuf := eleven.rxBuf.take k } : State).rxBuf.length + 1 ≤ 11)) := by decide

theorem witness_WrongMarkerAbortsTheFrame :
    ({ eleven with rxBuf := [0x99, 0x01] } : State).rxState = .syncing ∧
    ({ eleven with rxBuf := [0x99, 0x01] } : State).rxBuf.length = 2 ∧ (0x99 : Byte) ≠ 0x01 := by decide

theorem witness_TwelfthByteDeliversOrDiscards :
    eleven.rxState = .syncing ∧ eleven.rxBuf = [0x99, 0x01, 0x01, 0xDB, 0, 0, 0, 0, 0, 0x40, 0] ∧
    (0x99 + 0x01 + 0x01 + 0 + 0 + 0 + 0 + 0 + 0x40 + 0 + 0x00 : Byte) = 0xDB ∧
    (0x99 + 0x01 + 0x01 + 0 + 0 + 0 + 0 + 0 + 0x40 + 0 + 0x01 : Byte) ≠ 0xDB := by decide

/-- The prefix and the frame of R181's example. -/
theorem witness_ResynchronizesAfterGarbageWithoutSync :
    State.reset.rxState = .idle ∧ State.reset.rxBuf = [] ∧ (0x99 : Byte) ∉ [(0x00 : Byte), 0xFF, 0x37] ∧
    csum #v[0x99, 0x01, 0x01, 0xDB, 0, 0, 0, 0, 0, 0x40, 0, 0] = 0xDB := by decide

theorem witness_ReceiveAndTransmitCommute :
    (∃ t, exec .clk edge = .next t) ∧ (∃ t, exec .tick edge = .next t) ∧ (∃ t, exec .sched ticked = .next t) ∧
    ∃ t, exec .txb sending = .next t := ⟨⟨_, rfl⟩, ⟨_, rfl⟩, ⟨_, rfl⟩, _, rfl⟩

theorem witness_TelemetryFrameArrives :
    State.reset.rxState = .idle ∧ State.reset.rxBuf = [] ∧
    (0xDB : Byte) = 0x99 + 0x01 + 0x01 + 0 + 0 + 0 + 0 + (0x4000 : BitVec 16).extractLsb' 0 8 + (0x4000 : BitVec 16).extractLsb' 8 8 + 0 + 0 ∧
    (0xDC : Byte) ≠ 0x99 + 0x01 + 0x01 + 0 + 0 + 0 + 0 + (0x4000 : BitVec 16).extractLsb' 0 8 + (0x4000 : BitVec 16).extractLsb' 8 8 + 0 + 0 := by
  decide

theorem witness_EchoedCommandFrameIsRejected :
    State.reset.rxState = .idle ∧ State.reset.rxBuf = [] ∧ (0x02 : Byte) ≠ 0x01 ∧ (0x98 : Byte) ≠ 0x99 ∧
    (0x99 : Byte) ∉ (#v[1, 2, 3, 4, 5, 6, 7, 0x98] : Payload).toList ∧ (0x99 : Byte) ∉ f32le 0xC0200000 := by decide

theorem witness_EveryStepKeepsTheInvariant : CoreInv edge ∧ ∃ t, step edge = .next t := by
  refine ⟨⟨fun t => by cases t <;> decide, by decide, Nat.zero_le _, by decide, by decide, by decide, by decide⟩, _, rfl⟩

theorem witness_TracesOnlyGrow : ∃ t, exec .txb sending = .next t := ⟨_, rfl⟩

theorem witness_TracesAreNeverRead : ∃ t, exec (.rxb 0x00) eleven = .next t := ⟨_, rfl⟩

theorem witness_ErrorFlagsAreNeverRead : ∃ t, exec (.clrerr 0x01) edge = .next t := ⟨_, rfl⟩

theorem witness_ErrorFlagsAreSticky :
    (∃ t, exec (.clrerr 0xFE) edge = .next t) ∧ edge.errFlags.getLsbD 0 = true ∧ (0xFE : Byte).getLsbD 0 = false ∧
    Instr.clrerr 0xFE ≠ .reset := ⟨⟨_, rfl⟩, by decide, by decide, by decide⟩

theorem witness_OnlyTheOwnersWriteAnElement :
    (∃ t, exec .rxe edge = .next t) ∧ writesQueues .rxe = false ∧ writesTimer .rxe = false ∧ writesTick .rxe = false ∧
    writesTxFrame .rxe = false ∧ writesTxIdx .rxe = false ∧ writesRx .rxe = false ∧ writesFlags .rxe = false ∧
    submission (.submitRaw .mid (rot 1)) = some (.mid, rot 1) ∧ ∃ t, exec (.submitRaw .mid (rot 1)) edge = .next t :=
  ⟨⟨_, rfl⟩, by decide, by decide, by decide, by decide, by decide, by decide, by decide, rfl, _, rfl⟩

theorem witness_OneOperationRaisesAtMostOneError :
    singleCycle (.submitRot .high 4) = true ∧ ∃ t, exec (.submitRot .high 4) queued = .next t := ⟨by decide, _, rfl⟩

theorem witness_AdapterErrorsAreNeverRaised :
    Diag.portOpenFailure ∉ edge.diagOut ∧ Diag.partialWrite ∉ edge.diagOut ∧ ∃ t, step edge = .next t :=
  ⟨by decide, by decide, _, rfl⟩

theorem witness_PulsesAreHighForTheCycleOfTheirEvent :
    edge.events = [[0x29, 0x00]] ∧ decode [0x29, 0x00] = .ok (.rxb 0x00) ∧ singleCycle (.rxb 0x00) = true ∧
    ∃ t, step edge = .next t := ⟨rfl, by decide, by decide, _, rfl⟩

theorem witness_IdleCoreLeavesTheTracesAlone :
    Quiescent { ({ State.reset with tickPend := true } : State) with tickPend := false } ∧
    (∃ t, exec .sched { State.reset with tickPend := true } = .next t) ∧
    (∃ t, exec .tick { State.reset with tickPend := true } = .next t) ∧ isClrerr (.clrerr 0) = true :=
  ⟨⟨rfl, rfl, rfl, rfl, rfl, rfl⟩, ⟨_, rfl⟩, ⟨_, rfl⟩, rfl⟩

/-- Every pin high but `rst`. -/
def busyPins : Pins where
  rst := false
  subValid := true
  subKind := 4
  subTier := 2
  subData := 5
  txReady := true
  rxValid := true
  rxData := 0x99
  clrValid := true
  clrMask := 0xFF

theorem witness_ResetPinSuppressesTheEdge : ({ busyPins with rst := true } : Pins).rst = true := rfl

theorem witness_EveryOrderOfAnEdgeCompletes :
    busyPins.rst = false ∧ pinOthers busyPins sending = .ok [.submitRot .low 5, .rxb 0x99, .txb, .clk] ∧
    pinOthers busyPins ticked = .ok [.submitRot .low 5, .rxb 0x99, .sched, .clk] ∧
    [Instr.clk, .txb, .rxb 0x99, .submitRot .low 5].Perm [.submitRot .low 5, .rxb 0x99, .txb, .clk] ∧
    [Instr.clk, .txb, .rxb 0x99, .clrerr 0xFF, .submitRot .low 5].Perm
      (pinClear busyPins ++ [.submitRot .low 5, .rxb 0x99, .txb, .clk]) :=
  ⟨rfl, by decide, by decide, by decide, by decide⟩

theorem witness_DecodeChecksSyncMarkerChecksum :
    (buildRot 0x01)[0] = 0x99 ∧ (buildRot 0x01)[2] ≠ 0x01 ∧
    (#v[0x98, 1, 2, 0, 0, 0, 0, 0, 0, 0x40, 0, 0] : Frame)[0] ≠ 0x99 ∧
    csum #v[0x99, 0x01, 0x01, 0xDC, 0, 0, 0, 0, 0, 0x40, 0, 0] ≠ 0xDC ∧
    csum #v[0x99, 0x01, 0x01, 0xDB, 0, 0, 0, 0, 0, 0x40, 0, 0] = 0xDB := by decide

theorem witness_ChecksumTestIsTwiceByteThree :
    frameDecode #v[0x99, 0x01, 0x01, 0xDB, 0, 0, 0, 0, 0, 0x40, 0, 0] = .ok 0x4000 := by decide

theorem witness_ChecksumIsTheSumModulo256 : (summedBytes (rot 1)).reverse.Perm (summedBytes (rot 1)) := List.reverse_perm _

theorem witness_DecodeRejectsEncodedCommands : (0x02 : Byte) ≠ 0x01 := by decide

theorem witness_SingleByteChangesAreDetected :
    csumOk (rot 1) = true ∧ (0x00 : Byte) ≠ (rot 1)[3] ∧ (0x98 : Byte) ≠ (rot 1)[0] ∧ (1 : Byte) ≠ (rot 1)[11] ∧
    (0 : Nat) ≠ 11 ∧ (0 : Nat) ≠ 3 ∧ (11 : Nat) ≠ 3 := by decide

theorem witness_AngleInDegreesIsExact : (1 : BitVec 16) ≠ 0 ∧ (0x8000 : BitVec 16) ≠ 0 := by decide

end Sys2Proof.Tests
end

namespace Sys2Proof.StateProofs

open Machine Safety
open Host (Outcome)

/-! The circular buffer (R22) and the byte registers (R27) of Machine/Hardware.lean. -/

@[simp] theorem ringLive_length (cap : Nat) (r : Ring) : (ringLive cap r).length = r.count := by
  simp [ringLive]

/-- Two offsets below the capacity name two slots. -/
theorem add_mod_ne_of_lt {cap i j : Nat} (rd : Nat) (hij : i < j) (hj : j < cap) :
    (rd + i) % cap ≠ (rd + j) % cap := by
  intro h
  have hmod : i % cap = j % cap := Nat.ModEq.add_left_cancel' rd h
  rw [Nat.mod_eq_of_lt (hij.trans hj), Nat.mod_eq_of_lt hj] at hmod
  omega

theorem ringWr_lt {cap : Nat} {r : Ring} (h : r.Wf cap) : r.wr < cap := by
  rw [h.wr_eq]
  exact Nat.mod_lt _ (Nat.zero_lt_of_lt h.rd_lt)

/-- The slot written by an enqueue, read back. -/
theorem ringSlot_set_self {cap : Nat} {r r' : Ring} (f : Frame) (h : r.Wf cap)
    (hs : r'.slots = r.slots.set r.wr f) : ringSlot r' r.wr = f := by
  have hwr : r.wr < r.slots.length := h.slots_length ▸ ringWr_lt h
  simp [ringSlot, hs, hwr]

/-- Every other slot keeps its frame. -/
theorem ringSlot_set_other {r r' : Ring} {i : Nat} (f : Frame) (hi : i ≠ r.wr)
    (hs : r'.slots = r.slots.set r.wr f) : ringSlot r' i = ringSlot r i := by
  simp [ringSlot, hs, List.getD_eq_getElem?_getD, hi.symm]

theorem ringEnqueue_wf {cap : Nat} {r : Ring} (f : Frame) (h : r.Wf cap) : (ringEnqueue cap f r).Wf cap := by
  unfold ringEnqueue
  split
  case isTrue hroom =>
    refine ⟨by simp [h.slots_length], h.rd_lt, ?_, hroom⟩
    simp only [h.wr_eq, Nat.mod_add_mod, Nat.add_assoc]
  case isFalse _ => exact ⟨by simp [h.slots_length], ringWr_lt h, rfl, Nat.zero_lt_of_lt h.rd_lt⟩

/-- With a free slot the ring's enqueue appends: the live slots before it stay, as no offset of theirs names the
slot at the write index. -/
theorem ringLive_enqueue_room {cap : Nat} {r : Ring} (f : Frame) (h : r.Wf cap) (hroom : r.count < cap) :
    ringLive cap (ringEnqueue cap f r) = ringLive cap r ++ [f] := by
  have hslots : (ringEnqueue cap f r).slots = r.slots.set r.wr f := by simp [ringEnqueue, hroom]
  have hnew : ringSlot (ringEnqueue cap f r) ((r.rd + r.count) % cap) = f :=
    h.wr_eq ▸ ringSlot_set_self f h hslots
  have hold : ∀ i ∈ List.range r.count, ringSlot (ringEnqueue cap f r) ((r.rd + i) % cap) =
      ringSlot r ((r.rd + i) % cap) := by
    intro i hi
    refine ringSlot_set_other f ?_ hslots
    rw [h.wr_eq]
    exact add_mod_ne_of_lt r.rd (List.mem_range.mp hi) hroom
  calc ringLive cap (ringEnqueue cap f r)
      = (List.range (r.count + 1)).map fun i => ringSlot (ringEnqueue cap f r) ((r.rd + i) % cap) := by
        simp only [ringLive]
        simp [ringEnqueue, hroom]
    _ = ringLive cap r ++ [f] := by
        rw [List.range_succ, List.map_append, List.map_congr_left hold]
        simp [ringLive, hnew]

/-- On a full ring the bulk drop leaves the new frame alone. -/
theorem ringLive_enqueue_full {cap : Nat} {r : Ring} (f : Frame) (h : r.Wf cap) (hfull : ¬ r.count < cap) :
    ringLive cap (ringEnqueue cap f r) = [f] := by
  have hslots : (ringEnqueue cap f r).slots = r.slots.set r.wr f := by simp [ringEnqueue, hfull]
  have hnew := ringSlot_set_self f h hslots
  have hrd : (ringEnqueue cap f r).rd = r.wr := by simp [ringEnqueue, hfull]
  have hcount : (ringEnqueue cap f r).count = 1 := by simp [ringEnqueue, hfull]
  simp [ringLive, hcount, hrd, Nat.mod_eq_of_lt (ringWr_lt h), hnew]

theorem ringDequeue_wf {cap : Nat} {r : Ring} (h : r.Wf cap) : (ringDequeue cap r).2.Wf cap := by
  unfold ringDequeue
  split
  case isTrue _ => exact h
  case isFalse hne =>
    refine ⟨h.slots_length, Nat.mod_lt _ (Nat.zero_lt_of_lt h.rd_lt), ?_, (Nat.sub_le _ _).trans h.count_le⟩
    have hcount : r.rd + 1 + (r.count - 1) = r.rd + r.count := by omega
    simp only [h.wr_eq, Nat.mod_add_mod, hcount]

/-- The ring's dequeue takes the live sequence apart at its head. -/
theorem ringLive_dequeue {cap : Nat} {r : Ring} (h : r.Wf cap) :
    (ringDequeue cap r).1 = (ringLive cap r).head? ∧
      ringLive cap (ringDequeue cap r).2 = (ringLive cap r).tail := by
  unfold ringDequeue
  cases hc : r.count with
  | zero => simp [ringLive, hc]
  | succ n =>
    have hlive : ringLive cap r =
        ringSlot r r.rd :: (List.range n).map fun i => ringSlot r ((r.rd + 1 + i) % cap) := by
      simp [ringLive, hc, List.range_succ_eq_map, Nat.mod_eq_of_lt h.rd_lt, Nat.add_assoc, Nat.add_comm 1]
    rw [hlive]
    simp [ringLive, ringSlot]

/-- Settles O12: the live sequence of the ring under each of its operations. -/
theorem ringBufferRefinesTheTier : Obligations.RingBufferRefinesTheTier := by
  intro cap r f h
  refine ⟨⟨ringEnqueue_wf f h, ?_⟩, ringDequeue_wf h, ringLive_dequeue h⟩
  rw [ringLive_length]
  split
  case isTrue hroom => exact ringLive_enqueue_room f h hroom
  case isFalse hfull => exact ringLive_enqueue_full f h hfull

theorem rxLive_length {r : RxRegs} (h : r.len ≤ 12) : (rxLive r).length = r.len := by
  simp [rxLive, h]

/-- A byte written at `rx_len` is the last observable one. -/
theorem rxLive_append {r : RxRegs} (b : Byte) (h : r.len < 12) : rxLive (rxAppend b r) = rxLive r ++ [b] := by
  have hlen : r.len < (r.regs.toList.set r.len b).length := by simpa using h
  simp [rxLive, rxAppend, h, Vector.toList_set, List.take_succ_eq_append_getElem hlen, List.take_set_of_le]

/-- Settles O13: an append writes the register at `rx_len`, the first that was not observable. -/
theorem byteRegistersRefineTheReceiveBuffer : Obligations.ByteRegistersRefineTheReceiveBuffer := by
  intro r b
  refine ⟨fun h => ⟨rxLive_append b h, ?_⟩, rxLive_length, rfl⟩
  rw [rxLive_append b h, List.length_append, rxLive_length h.le, List.length_singleton]


/-! What each shared operation leaves alone, and the outbound frame event as one update. -/

theorem enqueue_q_other (c : Cfg) {t u : Tier} (f : Frame) (s : State) (h : u ≠ t) :
    (enqueue c t f s).q u = s.q u := by
  rcases enqueue_cases c t f s with ⟨_, he⟩ | ⟨_, he⟩ <;> simp [he, setQ_q_other _ _ _ _ h]

/-- An enqueue writes one tier and, at an overflow, the error log. -/
structure SameOutsideTiersAndErrors (s t : State) : Prop where
  tickCnt : t.tickCnt = s.tickCnt
  tickPend : t.tickPend = s.tickPend
  txFrame : t.txFrame = s.txFrame
  txIdx : t.txIdx = s.txIdx
  rxState : t.rxState = s.rxState
  rxBuf : t.rxBuf = s.rxBuf
  tlmRaw : t.tlmRaw = s.tlmRaw
  events : t.events = s.events
  freeCnt : t.freeCnt = s.freeCnt

theorem enqueue_frame (c : Cfg) (t : Tier) (f : Frame) (s : State) :
    SameOutsideTiersAndErrors s (enqueue c t f s) := by
  rcases enqueue_cases c t f s with ⟨_, he⟩ | ⟨_, he⟩ <;> rw [he] <;> constructor <;> simp

theorem q_of_sameOutsideRx {s t : State} (h : SameOutsideRx s t) (u : Tier) : t.q u = s.q u := by
  cases u with
  | high => exact h.qHigh
  | mid => exact h.qMid
  | low => exact h.qLow

/-- The fields that are neither the transmitter's, the timer's nor the tiers'. -/
structure SameOutsideTx (s t : State) : Prop where
  tickCnt : t.tickCnt = s.tickCnt
  rxState : t.rxState = s.rxState
  rxBuf : t.rxBuf = s.rxBuf
  tlmRaw : t.tlmRaw = s.tlmRaw
  errFlags : t.errFlags = s.errFlags
  tlmValid : t.tlmValid = s.tlmValid
  diagChk : t.diagChk = s.diagChk
  diagDsy : t.diagDsy = s.diagDsy
  diagOvf : t.diagOvf = s.diagOvf
  tlmOut : t.tlmOut = s.tlmOut
  diagOut : t.diagOut = s.diagOut
  events : t.events = s.events
  freeCnt : t.freeCnt = s.freeCnt

theorem serviceTick_frame (s : State) : SameOutsideTx s (serviceTick s) := by
  rcases serviceTick_cases s with ⟨_, _, h⟩ | ⟨t, f, r, _, _, h⟩ <;> rw [h] <;> constructor <;> simp

/-- A clock of the timer writes `tick_cnt` and `tick_pend`. -/
theorem clockTimer_eq (c : Cfg) (s : State) : ∃ n p, clockTimer c s = { s with tickCnt := n, tickPend := p } := by
  rcases clockTimer_cases c s with ⟨_, h⟩ | ⟨_, h⟩
  · exact ⟨_, _, h⟩
  · exact ⟨_, s.tickPend, h⟩

/-- The frame to be served depends on the tiers alone. -/
theorem nextFrame_congr {s t : State} (h : ∀ u, t.q u = s.q u) : nextFrame t = nextFrame s := by
  have hh : t.qHigh = s.qHigh := h .high
  have hm : t.qMid = s.qMid := h .mid
  have hl : t.qLow = s.qLow := h .low
  simp only [nextFrame, dequeueNext, hh, hm, hl]
  split <;> rfl

/-- The service of a tick with a frame to serve: the frame leaves its tier for the transmitter. -/
theorem serviceTick_of_nextFrame {f : Frame} {s : State} (hf : nextFrame s = some f) :
    serviceTick s = { s with
      qHigh := (afterSend f s).qHigh, qMid := (afterSend f s).qMid, qLow := (afterSend f s).qLow,
      tickPend := false, txFrame := f, txIdx := 0 } := by
  unfold nextFrame at hf
  unfold serviceTick
  rcases dequeueNext_cases s with ⟨h, _⟩ | ⟨g, r, h1, h⟩ | ⟨g, r, h1, h2, h⟩ | ⟨g, r, h1, h2, h3, h⟩ <;>
    rw [h] at hf <;> cases hf
  · simp [dequeueNext, afterSend, State.setQ, h1]
  · simp [dequeueNext, afterSend, State.setQ, h1, h2]
  · simp [dequeueNext, afterSend, State.setQ, h1, h2, h3]

/-- The whole tick of R157 as one update of the state. -/
theorem tickSend_eq_afterSend {f : Frame} {s : State} (hidle : s.txIdx = 12) (hf : nextFrame s = some f) :
    tickSend s = afterSend f s := by
  have hnext : nextFrame (pulsesLow (fireTick (pulsesLow s))) = some f := by
    rw [nextFrame_congr (s := s) (by simp), hf]
  rw [tickSend, serviceTick_of_nextFrame hnext, transmitBytes_rest 12 _ rfl (by decide)]
  simp [pulsesLow, fireTick, afterSend, hidle]

/-! The invariants of R41 (items i to vii). -/

/-- Item (vii): the flags without an error that CORE raises, and the unused bit, are 0. -/
def ReservedClear (fl : BitVec 8) : Prop :=
  fl.getLsbD 5 = false ∧ fl.getLsbD 6 = false ∧ fl.getLsbD 7 = false

theorem reservedClear_zero : ReservedClear 0 := ⟨by decide, by decide, by decide⟩

theorem reservedClear_setFlag {e : Diag} {fl : BitVec 8} (h : ReservedClear fl) (he : flagBit e < 5) :
    ReservedClear (setFlag e fl) := by
  obtain ⟨h5, h6, h7⟩ := h
  simp only [ReservedClear, setFlag_getLsbD, h5, h6, h7, Bool.false_or, decide_eq_false_iff_not]
  omega

theorem reservedClear_clearFlags (m : Byte) {fl : BitVec 8} (h : ReservedClear fl) :
    ReservedClear (clearFlags m fl) := by
  obtain ⟨h5, h6, h7⟩ := h
  simp only [ReservedClear, clearFlags_getLsbD, h5, h6, h7, Bool.false_and, and_self]

theorem flagBit_queueOverflow_lt (t : Tier) : flagBit (.queueOverflow t) < 5 := by cases t <;> decide

theorem flagBit_frameErrorDiag_lt (e : FrameError) : flagBit (frameErrorDiag e) < 5 := by cases e <;> decide

/-- The invariants where the receiver's registers are untouched. -/
theorem coreInv_of_same_receiver {s t : State} (h : CoreInv s) (hst : t.rxState = s.rxState)
    (hbuf : t.rxBuf = s.rxBuf) (hq : ∀ u, (t.q u).length ≤ Config.cfg.cap u) (htx : t.txIdx ≤ 12)
    (hcnt : t.tickCnt ≤ Config.tickDiv - 1) (hfl : ReservedClear t.errFlags) : CoreInv t where
  tiers_bounded := hq
  txIdx_le := htx
  tickCnt_le := hcnt
  idle_iff_empty := by rw [hst, hbuf]; exact h.idle_iff_empty
  syncing_shape := by rw [hst, hbuf]; exact h.syncing_shape
  marker_shape := by rw [hbuf]; exact h.marker_shape
  reserved_flags := hfl

/-- The invariants at an idle receiver. -/
theorem coreInv_of_idle {t : State} (hst : t.rxState = .idle) (hbuf : t.rxBuf = [])
    (hq : ∀ u, (t.q u).length ≤ Config.cfg.cap u) (htx : t.txIdx ≤ 12)
    (hcnt : t.tickCnt ≤ Config.tickDiv - 1) (hfl : ReservedClear t.errFlags) : CoreInv t where
  tiers_bounded := hq
  txIdx_le := htx
  tickCnt_le := hcnt
  idle_iff_empty := by simp [hst, hbuf]
  syncing_shape := by simp [hst]
  marker_shape := by simp [hbuf]
  reserved_flags := hfl

theorem coreInv_resetAll (s : State) : CoreInv (resetAll Config.cfg s) :=
  coreInv_of_idle rfl rfl (by simp) (by simp) le_rfl reservedClear_zero

theorem coreInv_startCycle (es : List (List Byte)) {s : State} (h : CoreInv s) : CoreInv (startCycle es s) :=
  coreInv_of_same_receiver h rfl rfl (by simpa using h.tiers_bounded) h.txIdx_le h.tickCnt_le h.reserved_flags

theorem coreInv_pulsesLow {s : State} (h : CoreInv s) : CoreInv (pulsesLow s) :=
  coreInv_of_same_receiver h rfl rfl (by simpa using h.tiers_bounded) h.txIdx_le h.tickCnt_le h.reserved_flags

theorem cap_pos (t : Tier) : 1 ≤ Config.cfg.cap t := by cases t <;> decide

theorem enqueue_q_length_le (t : Tier) (f : Frame) {s : State} (h : ∀ u, (s.q u).length ≤ Config.cfg.cap u)
    (u : Tier) : ((enqueue Config.cfg t f s).q u).length ≤ Config.cfg.cap u := by
  by_cases hu : u = t
  · subst hu
    rcases enqueue_cases Config.cfg u f s with ⟨hroom, he⟩ | ⟨_, he⟩ <;> rw [he]
    · simpa using hroom
    · simpa using cap_pos u
  · rw [enqueue_q_other _ _ _ hu]
    exact h u

theorem coreInv_enqueue (t : Tier) (f : Frame) {s : State} (h : CoreInv s) :
    CoreInv (enqueue Config.cfg t f s) := by
  have fr := enqueue_frame Config.cfg t f s
  refine coreInv_of_same_receiver h fr.rxState fr.rxBuf (enqueue_q_length_le t f h.tiers_bounded)
    (fr.txIdx ▸ h.txIdx_le) (fr.tickCnt ▸ h.tickCnt_le) ?_
  rcases enqueue_cases Config.cfg t f s with ⟨_, he⟩ | ⟨_, he⟩ <;> rw [he]
  · rw [setQ_errFlags]
    exact h.reserved_flags
  · simpa using reservedClear_setFlag h.reserved_flags (flagBit_queueOverflow_lt t)

theorem coreInv_clockTimer {s : State} (h : CoreInv s) : CoreInv (clockTimer Config.cfg s) := by
  rcases clockTimer_cases Config.cfg s with ⟨_, he⟩ | ⟨_, he⟩ <;> rw [he]
  · exact coreInv_of_same_receiver h rfl rfl h.tiers_bounded h.txIdx_le le_rfl h.reserved_flags
  · exact coreInv_of_same_receiver h rfl rfl h.tiers_bounded h.txIdx_le
      ((Nat.sub_le _ _).trans h.tickCnt_le) h.reserved_flags

/-- The tail of a tier fits where the tier does. -/
theorem setQ_tail_length_le {s : State} {t : Tier} {f : Frame} {r : List Frame} (hq : s.q t = f :: r)
    (h : ∀ u, (s.q u).length ≤ Config.cfg.cap u) (u : Tier) : ((s.setQ t r).q u).length ≤ Config.cfg.cap u := by
  by_cases hu : u = t
  · subst hu
    have hlen := h u
    rw [hq, List.length_cons] at hlen
    rw [setQ_q_self]
    omega
  · rw [setQ_q_other _ _ _ _ hu]
    exact h u

theorem coreInv_serviceTick {s : State} (h : CoreInv s) : CoreInv (serviceTick s) := by
  rcases serviceTick_cases s with ⟨_, _, he⟩ | ⟨t, f, r, hq, _, he⟩ <;> rw [he]
  · exact coreInv_of_same_receiver h rfl rfl h.tiers_bounded h.txIdx_le h.tickCnt_le h.reserved_flags
  · exact coreInv_of_same_receiver h (by simp) (by simp) (setQ_tail_length_le hq h.tiers_bounded)
      (Nat.zero_le _) (by simpa using h.tickCnt_le) ((setQ_errFlags s t r).symm ▸ h.reserved_flags)

theorem coreInv_afterSend (f : Frame) {s : State} (h : CoreInv s) : CoreInv (afterSend f s) := by
  refine coreInv_of_same_receiver h rfl rfl ?_ h.txIdx_le h.tickCnt_le h.reserved_flags
  have hh : s.qHigh.length ≤ _ := h.tiers_bounded .high
  have hm : s.qMid.length ≤ _ := h.tiers_bounded .mid
  have hl : s.qLow.length ≤ _ := h.tiers_bounded .low
  intro u
  cases u with
  | high => simp only [afterSend, State.q, List.length_tail]; omega
  | mid =>
    simp only [afterSend, State.q]
    split
    · rw [List.length_tail]; omega
    · exact hm
  | low =>
    simp only [afterSend, State.q]
    split
    · rw [List.length_tail]; omega
    · exact hl

/-- The flags after the verdict of the twelfth byte: at most CHK or DSY is new. -/
theorem reservedClear_rxVerdict (r : Except FrameError (BitVec 16)) {s : State} (h : ReservedClear s.errFlags) :
    ReservedClear (rxVerdict r s).errFlags := by
  rcases rxVerdict_cases r s with ⟨n, _, he⟩ | ⟨e, _, he⟩ <;> rw [he]
  · exact h
  · exact reservedClear_setFlag h (flagBit_frameErrorDiag_lt e)

/-- A byte that the receiver keeps in Syncing extends a buffer of the right shape to one. -/
theorem coreInv_append {s : State} {b : Byte} (h : CoreInv s) (hst : s.rxState = .syncing)
    (hmark : s.rxBuf.length = 2 → b = Config.rxMark) (hlen : s.rxBuf.length ≠ 11) :
    CoreInv { s with rxBuf := s.rxBuf ++ [b] } := by
  obtain ⟨hpos, hle, hsync⟩ := h.syncing_shape hst
  refine ⟨h.tiers_bounded, h.txIdx_le, h.tickCnt_le, by simp [hst], fun _ => ⟨by simp, ?_, ?_⟩, ?_, h.reserved_flags⟩
  · simp only [List.length_append, List.length_singleton]; omega
  · rw [List.getElem?_append_left hpos, hsync]
  · intro h3
    simp only [List.length_append, List.length_singleton] at h3
    by_cases h2 : s.rxBuf.length = 2
    · simp [h2, hmark h2]
    · rw [List.getElem?_append_left (by omega)]
      exact h.marker_shape (by omega)

theorem coreInv_receiveByte (b : Byte) {s : State} (h : CoreInv s) : CoreInv (receiveByte b s) := by
  rcases receiveByte_cases b s with ⟨_, hb, he⟩ | ⟨_, _, he⟩ | ⟨_, _, _, he⟩ | ⟨_, h12, he⟩ | ⟨hst, hmark, hlen, he⟩ <;>
    rw [he]
  case inl =>
    exact ⟨h.tiers_bounded, h.txIdx_le, h.tickCnt_le, by simp, by simp [hb], by simp, h.reserved_flags⟩
  case inr.inl => exact h
  case inr.inr.inl =>
    exact coreInv_of_idle rfl rfl (by simpa using h.tiers_bounded) h.txIdx_le h.tickCnt_le
      (reservedClear_setFlag h.reserved_flags (by decide))
  case inr.inr.inr.inl =>
    have fr := he ▸ receiveByte_frame b s
    exact coreInv_of_idle rfl rfl
      (fun u => (congrArg List.length (q_of_sameOutsideRx fr u)).trans_le (h.tiers_bounded u))
      (fr.txIdx ▸ h.txIdx_le) (fr.tickCnt ▸ h.tickCnt_le) (reservedClear_rxVerdict _ h.reserved_flags)
  case inr.inr.inr.inr => exact coreInv_append h hst hmark hlen

theorem coreInv_receiveBytes (bs : List Byte) {s : State} (h : CoreInv s) : CoreInv (receiveBytes bs s) := by
  induction bs generalizing s with
  | nil => exact h
  | cons b bs ih => exact ih (coreInv_receiveByte b (coreInv_pulsesLow h))

/-- Every operation that goes on keeps the invariants. -/
theorem coreInv_exec {i : Instr} {s t : State} (h : CoreInv s) (he : exec i s = .next t) : CoreInv t := by
  rcases exec_next_cases i s t he with ⟨u, f, _, rfl⟩ | ⟨_, rfl⟩ | ⟨m, _, rfl⟩ | ⟨b, _, rfl⟩ | ⟨_, rfl⟩ |
    ⟨_, hlt, rfl⟩ | ⟨_, rfl⟩ | ⟨_, rfl⟩ | ⟨_, _, _, rfl⟩ | ⟨_, f, rfl⟩ | ⟨_, f, hidle, hf, rfl⟩
  · exact coreInv_enqueue u f h
  · exact coreInv_resetAll s
  · exact coreInv_of_same_receiver h rfl rfl h.tiers_bounded h.txIdx_le h.tickCnt_le
      (reservedClear_clearFlags m h.reserved_flags)
  · exact coreInv_receiveByte b h
  · exact h
  · exact coreInv_of_same_receiver h rfl rfl (by simpa using h.tiers_bounded) hlt h.tickCnt_le h.reserved_flags
  · exact coreInv_clockTimer h
  · exact coreInv_of_same_receiver h rfl rfl (by simpa using h.tiers_bounded) h.txIdx_le h.tickCnt_le h.reserved_flags
  · exact coreInv_serviceTick h
  · exact coreInv_receiveBytes f.toList h
  · rw [tickSend_eq_afterSend hidle hf]
    exact coreInv_afterSend f h

/-- A step that goes on is an operation performed in a fresh cycle: CLK when nothing is presented, else the decoded
one. -/
theorem step_next_cases {s t : State} (h : step s = .next t) :
    ∃ i es, exec i (startCycle es s) = .next t := by
  unfold step at h
  split at h
  · exact ⟨_, _, h⟩
  · split at h
    · exact ⟨_, _, h⟩
    · cases h

/-- Settles O39: an operation keeps the invariants, and so does the cycle boundary before it. -/
theorem everyStepKeepsTheInvariant : Obligations.EveryStepKeepsTheInvariant := by
  intro s t h hstep
  obtain ⟨i, es, he⟩ := step_next_cases hstep
  exact coreInv_exec (coreInv_startCycle es h) he

/-- Settles O36: the values are those of the definition, and RESET leaves the traces alone. -/
theorem resetStateIsTheSpecs : Obligations.ResetStateIsTheSpecs := by
  refine ⟨rfl, rfl, rfl, rfl, rfl, rfl, rfl, rfl, rfl, rfl, rfl, rfl, rfl, rfl, rfl, rfl, rfl, ?_⟩
  intro s t h
  cases h
  exact ⟨rfl, rfl, rfl⟩

/-- Settles O38: the base case of O39. -/
theorem resetStateSatisfiesTheInvariant : Obligations.ResetStateSatisfiesTheInvariant :=
  coreInv_of_idle rfl rfl (fun u => by cases u <;> exact Nat.zero_le _) le_rfl le_rfl reservedClear_zero

/-- Settles O50: with `rst = 1` the edge is RESET, an operation with one result, which does not read the pulses that
the cycle boundary lowers. -/
theorem resetPinSuppressesTheEdge : Obligations.ResetPinSuppressesTheEdge := by
  intro p s hrst
  have hedge : ∀ u, EdgeStep p s u ↔ exec .reset (startCycle s.events s) = .next u := by simp [EdgeStep, hrst]
  refine ⟨resetAll Config.cfg (startCycle s.events s), (hedge _).mpr rfl, rfl, fun u hu => ?_⟩
  exact (Outcome.next.inj ((hedge u).mp hu)).symm

/-! The observation traces (R33) and the error flags (R29) are written and never read: two states that differ in
them alone are taken by every operation to two states that differ in them alone. -/

/-- A state with the traces `x`, `y`, `z` put in front of its own, and other error flags. -/
def withLogs (x : List Byte) (y : List (BitVec 16)) (z : List Diag) (fl : BitVec 8) (s : State) : State :=
  { s with txOut := x ++ s.txOut, tlmOut := y ++ s.tlmOut, diagOut := z ++ s.diagOut, errFlags := fl }

/-- The second state is the first with traces put in front of its own, and, unless `keep` holds, any error flags. -/
def SameUpToLogs (x : List Byte) (y : List (BitVec 16)) (z : List Diag) (keep : Prop) (s s' : State) : Prop :=
  ∃ fl, s' = withLogs x y z fl s ∧ (keep → fl = s.errFlags)

/-- Two outcomes of the same kind, with related next states or the same reason to stop. -/
def OutcomesRelated (R : State → State → Prop) : Outcome State Fault Refusal → Outcome State Fault Refusal → Prop
  | .next t, .next t' => R t t'
  | .fault r, .fault r' => r = r'
  | .refused r, .refused r' => r = r'
  | _, _ => False

theorem OutcomesRelated.next_right {R : State → State → Prop} {o o' : Outcome State Fault Refusal} {t : State}
    (h : OutcomesRelated R o o') (ho : o = .next t) : ∃ t', o' = .next t' ∧ R t t' := by
  subst ho
  cases o' with
  | next t' => exact ⟨t', rfl, h⟩
  | fault r => exact h.elim
  | refused r => exact h.elim

theorem OutcomesRelated.next_left {R : State → State → Prop} {o o' : Outcome State Fault Refusal} {t' : State}
    (h : OutcomesRelated R o o') (ho : o' = .next t') : ∃ t, o = .next t ∧ R t t' := by
  subst ho
  cases o with
  | next t => exact ⟨t, rfl, h⟩
  | fault r => exact h.elim
  | refused r => exact h.elim

section UpToLogs

variable {x : List Byte} {y : List (BitVec 16)} {z : List Diag} {keep : Prop} {s s' : State}

@[simp] theorem withLogs_q (fl : BitVec 8) (s : State) (t : Tier) : (withLogs x y z fl s).q t = s.q t := by
  cases t <;> rfl

/-- An update that leaves the error flags alone and does not see the logs keeps the relation. -/
theorem SameUpToLogs.of_commutes {g : State → State} (h : SameUpToLogs x y z keep s s')
    (hg : ∀ fl, g (withLogs x y z fl s) = withLogs x y z fl (g s)) (he : (g s).errFlags = s.errFlags) :
    SameUpToLogs x y z keep (g s) (g s') := by
  obtain ⟨fl, rfl, hfl⟩ := h
  exact ⟨fl, hg fl, fun hk => (hfl hk).trans he.symm⟩

theorem raise_upToLogs (d : Diag) (h : SameUpToLogs x y z keep s s') :
    SameUpToLogs x y z keep (raise d s) (raise d s') := by
  obtain ⟨fl, rfl, hfl⟩ := h
  exact ⟨setFlag d fl, by simp [raise, withLogs], fun hk => by rw [hfl hk]; rfl⟩

theorem setQ_upToLogs (t : Tier) (l : List Frame) (h : SameUpToLogs x y z keep s s') :
    SameUpToLogs x y z keep (s.setQ t l) (s'.setQ t l) :=
  h.of_commutes (g := fun s => s.setQ t l) (fun _ => by cases t <;> rfl) (setQ_errFlags s t l)

theorem pulsesLow_upToLogs (h : SameUpToLogs x y z keep s s') :
    SameUpToLogs x y z keep (pulsesLow s) (pulsesLow s') := h.of_commutes (fun _ => rfl) rfl

theorem fireTick_upToLogs (h : SameUpToLogs x y z keep s s') :
    SameUpToLogs x y z keep (fireTick s) (fireTick s') := h.of_commutes (fun _ => rfl) rfl

theorem rxToIdle_upToLogs (h : SameUpToLogs x y z keep s s') :
    SameUpToLogs x y z keep (rxToIdle s) (rxToIdle s') := h.of_commutes (fun _ => rfl) rfl

theorem setSyncing_upToLogs (buf : List Byte) (h : SameUpToLogs x y z keep s s') :
    SameUpToLogs x y z keep { s with rxState := .syncing, rxBuf := buf }
      { s' with rxState := .syncing, rxBuf := buf } :=
  h.of_commutes (g := fun s => { s with rxState := .syncing, rxBuf := buf }) (fun _ => rfl) rfl

theorem enqueue_upToLogs (c : Cfg) (t : Tier) (f : Frame) (h : SameUpToLogs x y z keep s s') :
    SameUpToLogs x y z keep (enqueue c t f s) (enqueue c t f s') := by
  have hq : s'.q t = s.q t := by
    obtain ⟨fl, rfl, _⟩ := h
    exact withLogs_q fl s t
  unfold enqueue
  rw [hq]
  split
  · exact setQ_upToLogs t _ h
  · exact raise_upToLogs _ (setQ_upToLogs t _ h)

theorem resetAll_upToLogs (c : Cfg) (h : SameUpToLogs x y z keep s s') :
    SameUpToLogs x y z keep (resetAll c s) (resetAll c s') := by
  obtain ⟨fl, rfl, _⟩ := h
  exact ⟨0, rfl, fun _ => rfl⟩

theorem clearFlags_upToLogs (m : Byte) (h : SameUpToLogs x y z keep s s') :
    SameUpToLogs x y z keep { s with errFlags := clearFlags m s.errFlags }
      { s' with errFlags := clearFlags m s'.errFlags } := by
  obtain ⟨fl, rfl, hfl⟩ := h
  exact ⟨clearFlags m fl, rfl, fun hk => congrArg (clearFlags m) (hfl hk)⟩

theorem clockTimer_upToLogs (c : Cfg) (h : SameUpToLogs x y z keep s s') :
    SameUpToLogs x y z keep (clockTimer c s) (clockTimer c s') := by
  refine h.of_commutes (fun fl => ?_) ?_
  · change (if s.tickCnt = 0 then _ else _) = withLogs x y z fl (if s.tickCnt = 0 then _ else _)
    split <;> rfl
  · obtain ⟨n, p, he⟩ := clockTimer_eq c s
    rw [he]

theorem serviceTick_upToLogs (h : SameUpToLogs x y z keep s s') :
    SameUpToLogs x y z keep (serviceTick s) (serviceTick s') := by
  refine h.of_commutes (fun fl => ?_) (serviceTick_frame s).errFlags
  rcases s with ⟨_ | ⟨f, r⟩, _ | ⟨g, m⟩, _ | ⟨k, l⟩⟩ <;> rfl

theorem sendByte_upToLogs (hs : s.txIdx < 12) (hs' : s'.txIdx < 12) (h : SameUpToLogs x y z keep s s') :
    SameUpToLogs x y z keep (sendByte s hs) (sendByte s' hs') := by
  obtain ⟨fl, rfl, hfl⟩ := h
  exact ⟨fl, by simp [sendByte, withLogs], hfl⟩

theorem SameUpToLogs.txIdx_eq (h : SameUpToLogs x y z keep s s') : s'.txIdx = s.txIdx := by
  obtain ⟨fl, rfl, _⟩ := h
  rfl

theorem rxVerdict_upToLogs (r : Except FrameError (BitVec 16)) (h : SameUpToLogs x y z keep s s') :
    SameUpToLogs x y z keep (rxVerdict r s) (rxVerdict r s') := by
  cases r with
  | error e => exact raise_upToLogs _ h
  | ok n =>
    obtain ⟨fl, rfl, hfl⟩ := h
    exact ⟨fl, by simp [rxVerdict, deliverTlm, withLogs], hfl⟩

theorem receiveByte_upToLogs (b : Byte) (h : SameUpToLogs x y z keep s s') :
    SameUpToLogs x y z keep (receiveByte b s) (receiveByte b s') := by
  have hst : s'.rxState = s.rxState := by obtain ⟨fl, rfl, _⟩ := h; rfl
  have hbuf : s'.rxBuf = s.rxBuf := by obtain ⟨fl, rfl, _⟩ := h; rfl
  simp only [receiveByte, hst, hbuf]
  cases s.rxState with
  | idle =>
    dsimp only
    split
    · exact setSyncing_upToLogs [b] h
    · exact h
  | syncing =>
    dsimp only
    split
    · exact raise_upToLogs _ (rxToIdle_upToLogs h)
    · split
      · exact rxToIdle_upToLogs (rxVerdict_upToLogs _ h)
      · exact setSyncing_upToLogs _ h

theorem receiveBytes_upToLogs (bs : List Byte) (h : SameUpToLogs x y z keep s s') :
    SameUpToLogs x y z keep (receiveBytes bs s) (receiveBytes bs s') := by
  induction bs generalizing s s' with
  | nil => exact h
  | cons b bs ih => exact ih (receiveByte_upToLogs b (pulsesLow_upToLogs h))

theorem transmitBytes_upToLogs (k : Nat) (h : SameUpToLogs x y z keep s s') :
    SameUpToLogs x y z keep (transmitBytes k s) (transmitBytes k s') := by
  induction k generalizing s s' with
  | zero => exact h
  | succ k ih =>
    have hp := pulsesLow_upToLogs h
    simp only [transmitBytes, hp.txIdx_eq]
    split
    · exact ih (sendByte_upToLogs _ _ hp)
    · exact h

theorem tickSend_upToLogs (h : SameUpToLogs x y z keep s s') :
    SameUpToLogs x y z keep (tickSend s) (tickSend s') :=
  transmitBytes_upToLogs 12 (serviceTick_upToLogs (pulsesLow_upToLogs (fireTick_upToLogs (pulsesLow_upToLogs h))))

theorem wireFrame_upToLogs (way : Way) (f : Frame) (h : SameUpToLogs x y z keep s s') :
    OutcomesRelated (SameUpToLogs x y z keep) (wireFrame way f s) (wireFrame way f s') := by
  cases way with
  | inbound => exact receiveBytes_upToLogs f.toList h
  | outbound =>
    have hnext : nextFrame s' = nextFrame s := by
      obtain ⟨fl, rfl, _⟩ := h
      exact nextFrame_congr (withLogs_q fl s)
    simp only [wireFrame, h.txIdx_eq, hnext]
    split
    · exact tickSend_upToLogs h
    · rfl

/-- No operation reads the logs. -/
theorem exec_upToLogs (i : Instr) (h : SameUpToLogs x y z keep s s') :
    OutcomesRelated (SameUpToLogs x y z keep) (exec i s) (exec i s') := by
  cases i with
  | submitRaw t f => exact enqueue_upToLogs _ t f h
  | submitEnc t c p => exact enqueue_upToLogs _ t _ h
  | submitVel t w => exact enqueue_upToLogs _ t _ h
  | submitAng t w => exact enqueue_upToLogs _ t _ h
  | submitRot t m => exact enqueue_upToLogs _ t _ h
  | reset => exact resetAll_upToLogs _ h
  | clrerr m => exact clearFlags_upToLogs m h
  | rxb b => exact receiveByte_upToLogs b h
  | rxe => exact h
  | txb =>
    simp only [exec, execTxb, transmitByte, h.txIdx_eq]
    split
    · exact sendByte_upToLogs _ _ h
    · rfl
  | clk => exact clockTimer_upToLogs _ h
  | tick => exact fireTick_upToLogs h
  | sched =>
    have hen : schedEnabled s' = schedEnabled s := by
      obtain ⟨fl, rfl, _⟩ := h
      rfl
    simp only [exec, execSched, schedule, hen]
    split
    · exact serviceTick_upToLogs h
    · rfl
  | cmd way c cs p => exact wireFrame_upToLogs way _ h
  | cmdVelocity way cs w => exact wireFrame_upToLogs way _ h
  | cmdAngle way cs w => exact wireFrame_upToLogs way _ h
  | cmdRotate way cs m => exact wireFrame_upToLogs way _ h
  | tlm cls cs u4 u5 u6 u7 a u10 u11 => exact wireFrame_upToLogs .inbound _ h

end UpToLogs

/-- An operation that goes on appends to the traces what it appends to empty ones. -/
theorem exec_appends_to_traces {i : Instr} {s t : State} (h : exec i s = .next t) :
    ∃ d : State, t = withLogs s.txOut s.tlmOut s.diagOut t.errFlags d ∧ t.errFlags = d.errFlags ∧
      ∀ x y z, exec i { s with txOut := x, tlmOut := y, diagOut := z } = .next (withLogs x y z t.errFlags d) := by
  have fromEmpty : ∀ x y z, SameUpToLogs x y z True { s with txOut := [], tlmOut := [], diagOut := [] }
      { s with txOut := x, tlmOut := y, diagOut := z } := fun x y z => ⟨s.errFlags, by simp [withLogs], fun _ => rfl⟩
  obtain ⟨d, hd, fl, rfl, hfl⟩ := (exec_upToLogs i (fromEmpty s.txOut s.tlmOut s.diagOut)).next_left h
  refine ⟨d, rfl, hfl trivial, fun x y z => ?_⟩
  obtain ⟨t', ht', fl', rfl, hfl'⟩ := (exec_upToLogs i (fromEmpty x y z)).next_right hd
  rw [ht', hfl' trivial, ← hfl trivial]
  rfl

/-- Settles O40: the traces at the end are those at the start and what the operation appended. -/
theorem tracesOnlyGrow : Obligations.TracesOnlyGrow := by
  intro i s t h
  obtain ⟨d, ht, _, _⟩ := exec_appends_to_traces h
  rw [ht]
  exact ⟨⟨_, rfl⟩, ⟨_, rfl⟩, ⟨_, rfl⟩⟩

/-- Settles O41: the operation appends the same to other traces. -/
theorem tracesAreNeverRead : Obligations.TracesAreNeverRead := by
  intro i s t x y z h
  obtain ⟨d, ht, _, hany⟩ := exec_appends_to_traces h
  rw [hany x y z, ht]
  simp [withLogs]

/-- Settles O42: the relation with empty traces in front and any flags. -/
theorem errorFlagsAreNeverRead : Obligations.ErrorFlagsAreNeverRead := by
  intro i s t x h
  have hrel : SameUpToLogs [] [] [] False s { s with errFlags := x } := ⟨x, rfl, False.elim⟩
  obtain ⟨t', ht', fl, rfl, _⟩ := (exec_upToLogs i hrel).next_right h
  exact ⟨fl, ht'⟩

/-! Sticky flags (R29, R201). -/

/-- Every flag that is set stays set. -/
def FlagsKept (s t : State) : Prop := ∀ k, s.errFlags.getLsbD k = true → t.errFlags.getLsbD k = true

theorem flagsKept_of_eq {s t : State} (h : t.errFlags = s.errFlags) : FlagsKept s t := fun k hk => by rwa [h]

theorem flagsKept_raise (d : Diag) (s : State) : FlagsKept s (raise d s) := fun k hk => by
  rw [raise_errFlags, setFlag_getLsbD, hk, Bool.true_or]

theorem flagsKept_enqueue (c : Cfg) (t : Tier) (f : Frame) (s : State) : FlagsKept s (enqueue c t f s) := by
  rcases enqueue_cases c t f s with ⟨_, he⟩ | ⟨_, he⟩ <;> rw [he]
  · exact flagsKept_of_eq (setQ_errFlags s t _)
  · intro k hk
    exact flagsKept_raise _ _ k (by rwa [setQ_errFlags])

theorem flagsKept_receiveByte (b : Byte) (s : State) : FlagsKept s (receiveByte b s) := by
  rcases receiveByte_cases b s with ⟨_, _, he⟩ | ⟨_, _, he⟩ | ⟨_, _, _, he⟩ | ⟨_, h12, he⟩ | ⟨_, _, _, he⟩ <;>
    rw [he]
  case inr.inr.inl => exact flagsKept_raise .framingDesync (rxToIdle s)
  case inr.inr.inr.inl =>
    rcases rxVerdict_cases (frameDecode (Frame.ofList (s.rxBuf ++ [b]) h12)) s with ⟨n, _, hv⟩ | ⟨e, _, hv⟩ <;>
      rw [hv]
    · exact flagsKept_of_eq rfl
    · exact flagsKept_raise (frameErrorDiag e) s
  all_goals exact flagsKept_of_eq rfl

theorem flagsKept_receiveBytes (bs : List Byte) (s : State) : FlagsKept s (receiveBytes bs s) := by
  induction bs generalizing s with
  | nil => exact flagsKept_of_eq rfl
  | cons b bs ih => exact fun k hk => ih _ k (flagsKept_receiveByte b (pulsesLow s) k hk)

theorem clockTimer_errFlags (c : Cfg) (s : State) : (clockTimer c s).errFlags = s.errFlags := by
  obtain ⟨n, p, he⟩ := clockTimer_eq c s
  rw [he]

/-- Settles O43: only RESET and CLRERR take a flag away. -/
theorem errorFlagsAreSticky : Obligations.ErrorFlagsAreSticky := by
  intro i s t k h hk hreset hmask
  rcases exec_next_cases i s t h with ⟨u, f, _, rfl⟩ | ⟨hi, rfl⟩ | ⟨m, hi, rfl⟩ | ⟨b, _, rfl⟩ | ⟨_, rfl⟩ |
    ⟨_, hlt, rfl⟩ | ⟨_, rfl⟩ | ⟨_, rfl⟩ | ⟨_, _, _, rfl⟩ | ⟨_, f, rfl⟩ | ⟨_, f, hidle, hf, rfl⟩
  · exact flagsKept_enqueue _ u f s k hk
  · exact absurd hi hreset
  · rw [clearFlags_getLsbD, hk, hmask m hi]
    rfl
  · exact flagsKept_receiveByte b s k hk
  · exact hk
  · exact hk
  · exact flagsKept_of_eq (clockTimer_errFlags _ s) k hk
  · exact hk
  · exact flagsKept_of_eq (serviceTick_frame s).errFlags k hk
  · exact flagsKept_receiveBytes f.toList s k hk
  · rw [tickSend_eq_afterSend hidle hf]
    exact hk

/-! Ownership (R45). -/

theorem submission_outbound {i : Instr} (h : outbound i = true) : submission i = none := by
  cases i with
  | cmd | cmdVelocity | cmdAngle | cmdRotate => rfl
  | _ => cases h

/-- Settles O44: the frame of each operation, against its row of the ownership table. -/
theorem onlyTheOwnersWriteAnElement : Obligations.OnlyTheOwnersWriteAnElement := by
  intro i s t h
  rcases exec_next_cases i s t h with ⟨u, f, hi, rfl⟩ | ⟨rfl, rfl⟩ | ⟨m, rfl, rfl⟩ | ⟨b, rfl, rfl⟩ | ⟨rfl, rfl⟩ |
    ⟨rfl, hlt, rfl⟩ | ⟨rfl, rfl⟩ | ⟨rfl, rfl⟩ | ⟨rfl, _, _, rfl⟩ | ⟨hi, f, rfl⟩ | ⟨hi, f, hidle, hf, rfl⟩
  · have fr := enqueue_frame Config.cfg u f s
    refine ⟨by simp [writesQueues, hi], ?_, fun _ => fr.tickCnt, fun _ => fr.tickPend, fun _ => fr.txFrame,
      fun _ => fr.txIdx, fun _ => ⟨fr.rxState, fr.rxBuf, fr.tlmRaw⟩, by simp [writesFlags, hi], fr.events, fr.freeCnt⟩
    intro v g hv w hw
    cases hi.symm.trans hv
    exact enqueue_q_other _ f s hw
  · simp [writesQueues, writesTimer, writesTick, writesTxFrame, writesTxIdx, writesRx, writesFlags, submission]
  · have hq : ∀ v, ({ s with errFlags := clearFlags m s.errFlags } : State).q v = s.q v := fun v => by cases v <;> rfl
    simp [hq, writesFlags, isClrerr]
  · have fr := receiveByte_frame b s
    simp [q_of_sameOutsideRx fr, fr.tickCnt, fr.tickPend, fr.txFrame, fr.txIdx, fr.events, fr.freeCnt,
      writesRx, writesFlags, isRxb]
  · simp
  · simp [writesTxIdx]
  · obtain ⟨n, p, he⟩ := clockTimer_eq Config.cfg s
    have hq : ∀ v, ({ s with tickCnt := n, tickPend := p } : State).q v = s.q v := fun v => by cases v <;> rfl
    simp [he, hq, writesTimer, writesTick]
  · simp [writesTick]
  · have fr := serviceTick_frame s
    simp [fr.tickCnt, fr.rxState, fr.rxBuf, fr.tlmRaw, fr.errFlags, fr.events, fr.freeCnt, submission,
      writesQueues, writesTick, writesTxFrame, writesTxIdx]
  · have fr := receiveBytes_frame f.toList s
    simp [q_of_sameOutsideRx fr, fr.tickCnt, fr.tickPend, fr.txFrame, fr.txIdx, fr.events, fr.freeCnt,
      writesRx, writesFlags, hi]
  · rw [tickSend_eq_afterSend hidle hf]
    simp [afterSend, submission_outbound hi, writesQueues, writesTick, writesTxFrame, writesTxIdx, hi]

/-! The pulses of a cycle (R39, R40). -/

/-- The two logged traces and the pulses agree. -/
structure SameSignals (s t : State) : Prop where
  tlmValid : t.tlmValid = s.tlmValid
  diagChk : t.diagChk = s.diagChk
  diagDsy : t.diagDsy = s.diagDsy
  diagOvf : t.diagOvf = s.diagOvf
  tlmOut : t.tlmOut = s.tlmOut
  diagOut : t.diagOut = s.diagOut

/-- What one operation can signal: nothing, one telemetry value, or one error. -/
def SignalsAtMostOnce (s t : State) : Prop :=
  SameSignals s t ∨ (∃ n, t.tlmRaw = n ∧ SameSignals (deliverTlm n s) t) ∨ ∃ e, SameSignals (raise e s) t

theorem enqueue_signals (c : Cfg) (t : Tier) (f : Frame) (s : State) : SignalsAtMostOnce s (enqueue c t f s) := by
  rcases enqueue_cases c t f s with ⟨_, he⟩ | ⟨_, he⟩ <;> rw [he]
  · exact .inl (by constructor <;> simp)
  · exact .inr (.inr ⟨.queueOverflow t, by constructor <;> simp⟩)

theorem receiveByte_signals (b : Byte) (s : State) : SignalsAtMostOnce s (receiveByte b s) := by
  rcases receiveByte_cases b s with ⟨_, _, he⟩ | ⟨_, _, he⟩ | ⟨_, _, _, he⟩ | ⟨_, h12, he⟩ | ⟨_, _, _, he⟩ <;>
    rw [he]
  case inr.inr.inl => exact .inr (.inr ⟨.framingDesync, by constructor <;> rfl⟩)
  case inr.inr.inr.inl =>
    rcases rxVerdict_cases (frameDecode (Frame.ofList (s.rxBuf ++ [b]) h12)) s with ⟨n, _, hv⟩ | ⟨e, _, hv⟩ <;>
      rw [hv]
    · exact .inr (.inl ⟨n, rfl, by constructor <;> rfl⟩)
    · exact .inr (.inr ⟨frameErrorDiag e, by constructor <;> rfl⟩)
  all_goals exact .inl (by constructor <;> rfl)

/-- An operation of a single cycle signals at most once, from a state whose pulses are low. -/
theorem exec_signals {i : Instr} {s t : State} (hlow : pulsesLow s = s) (hi : singleCycle i = true)
    (h : exec i s = .next t) : SignalsAtMostOnce s t := by
  rcases exec_next_cases i s t h with ⟨u, f, _, rfl⟩ | ⟨_, rfl⟩ | ⟨m, _, rfl⟩ | ⟨b, _, rfl⟩ | ⟨_, rfl⟩ |
    ⟨_, hlt, rfl⟩ | ⟨_, rfl⟩ | ⟨_, rfl⟩ | ⟨_, _, _, rfl⟩ | ⟨hin, _⟩ | ⟨hout, _⟩
  · exact enqueue_signals _ u f s
  · rw [← hlow]
    exact .inl (by constructor <;> rfl)
  · exact .inl (by constructor <;> rfl)
  · exact receiveByte_signals b s
  · exact .inl (by constructor <;> rfl)
  · exact .inl (by constructor <;> rfl)
  · obtain ⟨n, p, he⟩ := clockTimer_eq Config.cfg s
    rw [he]
    exact .inl (by constructor <;> rfl)
  · exact .inl (by constructor <;> rfl)
  · have fr := serviceTick_frame s
    exact .inl ⟨fr.tlmValid, fr.diagChk, fr.diagDsy, fr.diagOvf, fr.tlmOut, fr.diagOut⟩
  · simp [singleCycle, hin] at hi
  · simp [singleCycle, hout] at hi

/-- After an overflow of one tier in a cycle, its pulse alone is high. -/
theorem overflowPulse_iff (t u : Tier) :
    ((0 : BitVec 3) ||| BitVec.twoPow 3 (ovfPulseBit t)).getLsbD (ovfPulseBit u) = true ↔ t = u := by
  cases t <;> cases u <;> decide

/-- An error's pulse of `diag_ovf`, from low pulses: the one of an overflow of that tier. -/
theorem raise_diagOvf_iff {s : State} (hs : s.diagOvf = 0) (e : Diag) (u : Tier) :
    (raise e s).diagOvf.getLsbD (ovfPulseBit u) = true ↔ e = .queueOverflow u := by
  cases e with
  | queueOverflow t => rw [raise_overflow_diagOvf, hs, overflowPulse_iff, Diag.queueOverflow.injEq]
  | checksumMismatch | framingDesync | portOpenFailure | partialWrite =>
    rw [raise_diagOvf _ _ (by simp), hs]
    simp

/-- Settles O48: the cycle begins with the pulses low, and its operation signals at most once. -/
theorem pulsesAreHighForTheCycleOfTheirEvent : Obligations.PulsesAreHighForTheCycleOfTheirEvent := by
  intro s t e es i hev hdec hi hstep
  have hexec : exec i (startCycle es s) = .next t := by simpa [step, hev, hdec] using hstep
  rcases exec_signals rfl hi hexec with hsig | ⟨n, hn, hsig⟩ | ⟨d, hsig⟩
  · simp [hsig.tlmValid, hsig.diagChk, hsig.diagDsy, hsig.diagOvf, hsig.tlmOut, hsig.diagOut]
  · simp [hsig.tlmValid, hsig.diagChk, hsig.diagDsy, hsig.diagOvf, hsig.tlmOut, hsig.diagOut, hn]
  · have hovf := raise_diagOvf_iff (startCycle_diagOvf es s) d
    rw [← hsig.diagOvf] at hovf
    simp [hsig.tlmValid, hsig.diagChk, hsig.diagDsy, hsig.tlmOut, hsig.diagOut, hovf]

end Sys2Proof.StateProofs

namespace Sys2Proof.MemoryProofs

open Machine Safety StateProofs
open Host (Outcome)

/-! The decoder on the encoder's records (R76 to R87). -/

/-- A submit opcode selects the submit port, and its two fields are read back. -/
theorem submitOp_fields (k : BitVec 3) (t : Tier) :
    (submitOp k t).toNat < 0x20 ∧ (submitOp k t).extractLsb' 2 3 = k ∧
      tierOf ((submitOp k t).extractLsb' 0 2) = some t := by
  revert k
  cases t <;> decide

/-- A record of thirteen bytes with a defined opcode is the operation that `sub_kind` names (R84 to R86). -/
theorem decode_submitOp (k : BitVec 3) (t : Tier) (hk : k.toNat < 5) (d0 d1 d2 d3 d4 d5 d6 d7 d8 d9 d10 d11 : Byte) :
    decode [submitOp k t, d0, d1, d2, d3, d4, d5, d6, d7, d8, d9, d10, d11] =
      .ok (if k = 0 then .submitRaw t #v[d0, d1, d2, d3, d4, d5, d6, d7, d8, d9, d10, d11]
        else if k = 1 then .submitEnc t d0 #v[d1, d2, d3, d4, d5, d6, d7, d8]
        else if k = 2 then .submitVel t (le32 d0 d1 d2 d3)
        else if k = 3 then .submitAng t (le32 d0 d1 d2 d3)
        else .submitRot t d0) := by
  obtain ⟨hport, hkind, htier⟩ := submitOp_fields k t
  simp only [decode, hport, if_true, decodeSubmit, hkind, htier, Nat.not_le.mpr hk, if_false]
  split_ifs <;> rfl

/-- A frame's record is read at the port of its direction (entry 2). -/
theorem decode_wireRecord (way : Way) (f : Frame) (hsync : f[0] = Config.sync) :
    decode (wireRecord way f) = decodeWire way f.toList := by
  cases way with
  | inbound => simp [wireRecord, frame_toList, hsync, decode]
  | outbound => rfl

theorem decodeWire_cmdVelocity (way : Way) (cs : Byte) (w : BitVec 32) :
    decodeWire way (cmdFrame Config.cmdVelocity cs (f32Payload w)).toList = .ok (.cmdVelocity way cs w) := by
  simp [cmdFrame, f32Payload, decodeWire]

theorem decodeWire_cmdAngle (way : Way) (cs : Byte) (w : BitVec 32) :
    decodeWire way (cmdFrame Config.cmdAngle cs (f32Payload w)).toList = .ok (.cmdAngle way cs w) := by
  simp [cmdFrame, f32Payload, decodeWire]

theorem decodeWire_cmdRotate (way : Way) (cs mode : Byte) :
    decodeWire way (cmdFrame Config.cmdRotate cs (modePayload mode)).toList = .ok (.cmdRotate way cs mode) := by
  simp [cmdFrame, modePayload, decodeWire]

theorem decodeWire_tlm (cls cs u4 u5 u6 u7 : Byte) (angle : BitVec 16) (u10 u11 : Byte) :
    decodeWire .inbound (tlmFrame cls cs u4 u5 u6 u7 angle u10 u11).toList =
      .ok (.tlm cls cs u4 u5 u6 u7 angle u10 u11) := by
  simp [tlmFrame, decodeWire]

/-- The checks of a generic command, as the conditions under which the decoder reads another row. -/
theorem wellFormed_cmd {way : Way} {c cs : Byte} {p : Payload} (h : (Instr.cmd way c cs p).wellFormed = true) :
    ¬ (c = Config.cmdVelocity ∧ p[4] = 0 ∧ p[5] = 0 ∧ p[6] = 0 ∧ p[7] = 0) ∧
    ¬ (c = Config.cmdAngle ∧ p[4] = 0 ∧ p[5] = 0 ∧ p[6] = 0 ∧ p[7] = 0) ∧
    ¬ (c = Config.cmdRotate ∧ p[1] = 0 ∧ p[2] = 0 ∧ p[3] = 0 ∧ p[4] = 0 ∧ p[5] = 0 ∧ p[6] = 0 ∧ p[7] = 0) ∧
    ¬ (way = .inbound ∧ c = Config.rxMark) := by
  simpa [Instr.wellFormed, Payload.modeShaped, Payload.floatShaped, and_assoc, or_assoc, imp_iff_not_or] using h

/-- A command with none of the more specific shapes is read as a generic one (entry 5). -/
theorem decodeWire_cmd {way : Way} {c cs : Byte} {p : Payload} (h : (Instr.cmd way c cs p).wellFormed = true) :
    decodeWire way (cmdFrame c cs p).toList = .ok (.cmd way c cs p) := by
  obtain ⟨hvel, hang, hrot, htlm⟩ := wellFormed_cmd h
  have hbytes : (cmdFrame c cs p).toList =
      [Config.sync, Config.classCmd, c, cs, p[0], p[1], p[2], p[3], p[4], p[5], p[6], p[7]] := rfl
  rw [hbytes, decodeWire, if_neg (not_not_intro rfl), if_neg fun hc => hvel hc.2, if_neg fun hc => hang hc.2,
    if_neg fun hc => hrot hc.2, if_neg htlm, if_pos rfl, ← payload_eta p]

/-- Every well-formed operation is read back from its record. -/
theorem decode_encode (i : Instr) (h : i.wellFormed = true) : decode (encode i) = .ok i := by
  cases i with
  | submitRaw t f =>
    simp only [encode, frame_toList]
    rw [decode_submitOp 0 t (by decide), frame_eta f]
    rfl
  | submitEnc t c p =>
    rw [payload_eta p]
    exact decode_submitOp 1 t (by decide) ..
  | submitVel t w =>
    refine (decode_submitOp 2 t (by decide) ..).trans ?_
    simp
  | submitAng t w =>
    refine (decode_submitOp 3 t (by decide) ..).trans ?_
    simp
  | submitRot t mode => exact decode_submitOp 4 t (by decide) ..
  | cmd way c cs p => exact (decode_wireRecord way _ rfl).trans (decodeWire_cmd h)
  | cmdVelocity way cs w => exact (decode_wireRecord way _ rfl).trans (decodeWire_cmdVelocity way cs w)
  | cmdAngle way cs w => exact (decode_wireRecord way _ rfl).trans (decodeWire_cmdAngle way cs w)
  | cmdRotate way cs mode => exact (decode_wireRecord way _ rfl).trans (decodeWire_cmdRotate way cs mode)
  | tlm cls cs u4 u5 u6 u7 angle u10 u11 => exact (decode_wireRecord .inbound _ rfl).trans (decodeWire_tlm ..)
  | reset | clrerr | rxb | rxe | txb | clk | tick | sched => rfl

/-! The step as an operation of the schedule (R58, R60). -/

theorem step_of_decode {s : State} {e : List Byte} {es : List (List Byte)} {i : Instr} (hev : s.events = e :: es)
    (hi : decode e = .ok i) : step s = exec i (startCycle es s) := by
  simp only [step, hev, hi]

theorem step_of_decode_error {s : State} {e : List Byte} {es : List (List Byte)} {why : DecodeError}
    (hev : s.events = e :: es) (hwhy : decode e = .error why) : step s = .refused (.undecodable why) := by
  simp only [step, hev, hwhy]

/-- Settles O5: the two outcomes of the decoder in `step`, whose cycle boundary is `startCycle`. -/
theorem stepRunsTheDecodedOperation : Obligations.StepRunsTheDecodedOperation :=
  fun _ _ _ hev => ⟨fun _ hi => step_of_decode hev hi, fun _ hwhy => step_of_decode_error hev hwhy⟩

/-- No operation reads or writes the schedule. -/
theorem exec_events {i : Instr} {s t : State} (h : exec i s = .next t) : t.events = s.events := by
  obtain ⟨_, _, _, _, _, _, _, _, hev, _⟩ := onlyTheOwnersWriteAnElement i s t h
  exact hev

/-- Settles O7, by induction on the list: a step performs the first operation and leaves the records of the rest. -/
theorem scheduleRunsInOrder : Obligations.ScheduleRunsInOrder := by
  intro ops
  induction ops with
  | nil => intro s _ _; rfl
  | cons i is ih =>
    intro s hwf hev
    have hstep : Sys2Proof.core.step s = exec i (startCycle s.events.tail s) := by
      rw [hev]
      exact step_of_decode hev (decode_encode i (hwf i List.mem_cons_self))
    have htail : s.events.tail = is.map encode := by rw [hev]; rfl
    simp only [List.length_cons, Host.Core.run, runCycles, hstep]
    cases hexec : exec i (startCycle s.events.tail s) with
    | next t => exact ih t (fun j hj => hwf j (List.mem_cons_of_mem i hj)) ((exec_events hexec).trans htail)
    | fault r => rfl
    | refused r => rfl

/-! The tiers as sequences (R64): every operation takes from the head of a tier what it loads and puts at its end
what it submits. -/

/-- What `dequeueNext` takes: nothing from empty tiers, or the head of the tier served. -/
theorem dequeueNext_servedTier (s : State) :
    (servedTier s = none ∧ dequeueNext s = (none, s)) ∨
    (∃ v f r, servedTier s = some v ∧ s.q v = f :: r ∧ dequeueNext s = (some f, s.setQ v r)) := by
  rcases dequeueNext_cases s with ⟨h, he⟩ | ⟨f, r, h1, h⟩ | ⟨f, r, h1, h2, h⟩ | ⟨f, r, h1, h2, h3, h⟩
  · have h1 : s.qHigh = [] := he .high
    have h2 : s.qMid = [] := he .mid
    have h3 : s.qLow = [] := he .low
    exact .inl ⟨by simp [servedTier, h1, h2, h3], h⟩
  · exact .inr ⟨.high, f, r, by simp [servedTier, h1], h1, h⟩
  · exact .inr ⟨.mid, f, r, by simp [servedTier, h1, h2], h2, h⟩
  · exact .inr ⟨.low, f, r, by simp [servedTier, h1, h2, h3], h3, h⟩

/-- A tier is the frame `dequeueNext` takes from it, if any, and what stays in it. -/
theorem q_eq_served_append (t : Tier) (s : State) :
    s.q t = (if servedTier s = some t then (nextFrame s).toList else []) ++ (dequeueNext s).2.q t := by
  unfold nextFrame
  rcases dequeueNext_servedTier s with ⟨hv, hd⟩ | ⟨v, f, r, hv, hq, hd⟩ <;> rw [hv, hd]
  · simp
  · by_cases ht : t = v
    · subst ht
      simp [hq]
    · simp [Ne.symm ht, setQ_q_other _ _ _ _ ht]

/-- The service of a tick clears `tick_pend`, which no tier depends on, and leaves the tiers as `dequeueNext` does. -/
theorem serviceTick_q (t : Tier) (s : State) : (serviceTick s).q t = (dequeueNext { s with tickPend := false }).2.q t := by
  unfold serviceTick
  rcases dequeueNext_servedTier { s with tickPend := false } with ⟨_, hd⟩ | ⟨v, f, r, _, _, hd⟩ <;> rw [hd]
  cases t <;> rfl

/-- A tier before a tick's service is the frame that the service loads from it, if any, and what stays in it. -/
theorem q_eq_loaded_append_serviceTick (t : Tier) (s : State) :
    s.q t = (if servedTier s = some t then (nextFrame s).toList else []) ++ (serviceTick s).q t := by
  have hq : ∀ u, ({ s with tickPend := false } : State).q u = s.q u := fun u => by cases u <;> rfl
  rw [serviceTick_q, ← nextFrame_congr hq, ← hq t]
  exact q_eq_served_append t { s with tickPend := false }

/-- A whole tick takes from the tiers what the scheduler's service takes. -/
theorem tickSend_q {f : Frame} {s : State} (hidle : s.txIdx = 12) (hf : nextFrame s = some f) (t : Tier) :
    (tickSend s).q t = (serviceTick s).q t := by
  rw [tickSend_eq_afterSend hidle hf, serviceTick_of_nextFrame hf]
  cases t <;> rfl

/-- An enqueue that raises no overflow of a tier leaves that tier with the frame at its end, if it went there. -/
theorem enqueue_q_of_no_overflow (c : Cfg) (u t : Tier) (f : Frame) (s : State)
    (h : Diag.queueOverflow t ∉ (enqueue c u f s).diagOut.drop s.diagOut.length) :
    (enqueue c u f s).q t = s.q t ++ if u = t then [f] else [] := by
  by_cases hu : u = t
  · subst hu
    rcases enqueue_cases c u f s with ⟨_, he⟩ | ⟨_, he⟩ <;> rw [he] at h ⊢
    · simp
    · simp at h
  · simp [hu, enqueue_q_other c f s (Ne.symm hu)]

/-- An operation that does not own the tiers loads nothing and submits nothing. -/
theorem loaded_submitted_of_keeps_queues {i : Instr} (h : writesQueues i = false) (t : Tier) (s : State) :
    loadedFromBy t i s = [] ∧ submittedBy t i = [] := by
  simp only [writesQueues, Bool.or_eq_false_iff, Option.isSome_eq_false_iff, Option.isNone_iff_eq_none] at h
  obtain ⟨⟨⟨hsub, hsched⟩, _⟩, hout⟩ := h
  simp [loadedFromBy, loadedBy, submittedBy, hsub, hsched, hout]

/-- A submission loads nothing. -/
theorem loadedFromBy_of_submission {i : Instr} {u : Tier} {f : Frame} (t : Tier) (s : State)
    (h : submission i = some (u, f)) : loadedFromBy t i s = [] := by
  have hsched : i ≠ .sched := by
    rintro rfl
    cases h
  have hout : outbound i = false := by
    by_contra ho
    rw [submission_outbound (Bool.not_eq_false _ ▸ ho)] at h
    cases h
  simp [loadedFromBy, loadedBy, hsched, hout]

/-- An operation that serves a tick loads the frame to be served and submits nothing. -/
theorem loaded_submitted_of_serves {i : Instr} (h : i = .sched ∨ outbound i = true) (t : Tier) (s : State) :
    loadedFromBy t i s = (if servedTier s = some t then (nextFrame s).toList else []) ∧ submittedBy t i = [] := by
  rcases h with rfl | h
  · exact ⟨rfl, rfl⟩
  · simp [loadedFromBy, loadedBy, submittedBy, h, submission_outbound h]

/-- An inbound frame does not touch the tiers. -/
theorem writesQueues_of_inbound {i : Instr} (h : inbound i = true) : writesQueues i = false := by
  cases i with
  | cmd way | cmdVelocity way | cmdAngle way | cmdRotate way =>
    cases way with
    | inbound => rfl
    | outbound => cases h
  | tlm => rfl
  | _ => cases h

/-- What an operation that goes on can do to the tiers. -/
theorem exec_next_tiers {i : Instr} {s s' : State} (h : exec i s = .next s') :
    (∃ u f, submission i = some (u, f) ∧ s' = enqueue Config.cfg u f s) ∨ i = .reset ∨
    ((i = .sched ∨ outbound i = true) ∧ ∀ t, s'.q t = (serviceTick s).q t) ∨
    (writesQueues i = false ∧ ∀ t, s'.q t = s.q t) := by
  by_cases hw : writesQueues i = false
  · obtain ⟨hq, _⟩ := onlyTheOwnersWriteAnElement i s s' h
    exact .inr (.inr (.inr ⟨hw, hq hw⟩))
  · rcases exec_next_cases i s s' h with hsub | ⟨hi, _⟩ | ⟨m, rfl, _⟩ | ⟨b, rfl, _⟩ | ⟨rfl, _⟩ | ⟨rfl, _⟩ | ⟨rfl, _⟩ |
      ⟨rfl, _⟩ | ⟨hi, _, _, rfl⟩ | ⟨hi, _⟩ | ⟨hi, f, hidle, hf, rfl⟩
    any_goals exact absurd rfl hw
    · exact .inl hsub
    · exact .inr (.inl hi)
    · exact .inr (.inr (.inl ⟨.inl hi, fun _ => rfl⟩))
    · exact absurd (writesQueues_of_inbound hi) hw
    · exact .inr (.inr (.inl ⟨.inr hi, tickSend_q hidle hf⟩))

/-- One operation: what was in a tier and what it submits there is what it loads from there and what is left. -/
theorem exec_fifo {t : Tier} {i : Instr} {s s' : State} (hi : i ≠ .reset) (h : exec i s = .next s')
    (hovf : Diag.queueOverflow t ∉ s'.diagOut.drop s.diagOut.length) :
    s.q t ++ submittedBy t i = loadedFromBy t i s ++ s'.q t := by
  rcases exec_next_tiers h with ⟨u, f, hsub, rfl⟩ | hreset | ⟨hserves, hq⟩ | ⟨hw, hq⟩
  · rw [enqueue_q_of_no_overflow _ u t f s hovf, loadedFromBy_of_submission t s hsub]
    simp [submittedBy, hsub]
  · exact absurd hreset hi
  · obtain ⟨hload, hsub⟩ := loaded_submitted_of_serves hserves t s
    rw [hload, hsub, hq, List.append_nil, ← q_eq_loaded_append_serviceTick]
  · obtain ⟨hload, hsub⟩ := loaded_submitted_of_keeps_queues hw t s
    rw [hload, hsub, hq, List.append_nil, List.nil_append]

/-- A run that goes on only appends to `diag_out`. -/
theorem runOps_diagOut {ops : List Instr} {s u : State} (h : runOps ops s = .next u) : s.diagOut <+: u.diagOut := by
  induction ops generalizing s with
  | nil =>
    cases h
    exact ⟨[], List.append_nil _⟩
  | cons i is ih =>
    obtain ⟨s', hexec, hrun⟩ := (runOps_cons_next i is s u).mp h
    obtain ⟨_, _, hgrow⟩ := tracesOnlyGrow i s s' hexec
    exact hgrow.trans (ih hrun)

/-- Settles O22, by induction on the run, an operation at a time. -/
theorem tierIsFirstInFirstOut : Obligations.TierIsFirstInFirstOut := by
  intro t ops
  induction ops with
  | nil =>
    intro s u _ h _
    cases h
    simp [history]
  | cons i is ih =>
    intro s u hreset h hovf
    obtain ⟨hi, his⟩ := List.ne_and_not_mem_of_not_mem_cons hreset
    obtain ⟨s', hexec, hrun⟩ := (runOps_cons_next i is s u).mp h
    obtain ⟨_, _, d, hd⟩ := tracesOnlyGrow i s s' hexec
    obtain ⟨e, he⟩ := runOps_diagOut hrun
    have hu : u.diagOut.drop s.diagOut.length = d ++ e := by rw [← he, ← hd]; simp
    rw [hu, List.mem_append, not_or] at hovf
    obtain ⟨hovf_d, hovf_e⟩ := hovf
    have hfirst : s.q t ++ submittedBy t i = loadedFromBy t i s ++ s'.q t :=
      exec_fifo (Ne.symm hi) hexec (by rwa [← hd, List.drop_left])
    have hrest : s'.q t ++ is.flatMap (submittedBy t) = history (loadedFromBy t) is s' ++ u.q t :=
      ih s' u his hrun (by rwa [← he, List.drop_left])
    calc s.q t ++ (i :: is).flatMap (submittedBy t)
        = (s.q t ++ submittedBy t i) ++ is.flatMap (submittedBy t) := by simp
      _ = loadedFromBy t i s ++ (s'.q t ++ is.flatMap (submittedBy t)) := by rw [hfirst, List.append_assoc]
      _ = history (loadedFromBy t) (i :: is) s ++ u.q t := by rw [hrest]; simp [history, hexec]

/-! The receive side and the transmit side (R67): RXB reads and writes the one, CLK, TICK, SCHED and TXB the other. -/

/-- The receiver, the telemetry, the error log and the pulses of `rx` with everything else of `tx`. -/
def joinSides (rx tx : State) : State :=
  { tx with
    rxState := rx.rxState
    rxBuf := rx.rxBuf
    tlmRaw := rx.tlmRaw
    errFlags := rx.errFlags
    tlmValid := rx.tlmValid
    diagChk := rx.diagChk
    diagDsy := rx.diagDsy
    diagOvf := rx.diagOvf
    tlmOut := rx.tlmOut
    diagOut := rx.diagOut }

theorem joinSides_self (s : State) : joinSides s s = s := rfl

/-- RXB works on the receive side whatever the transmit side. -/
theorem receiveByte_joinSides (b : Byte) (rx tx : State) :
    receiveByte b (joinSides rx tx) = joinSides (receiveByte b rx) tx := by
  have hst : (joinSides rx tx).rxState = rx.rxState := rfl
  have hbuf : (joinSides rx tx).rxBuf = rx.rxBuf := rfl
  unfold receiveByte
  rw [hst, hbuf]
  cases rx.rxState with
  | idle => dsimp only; split <;> rfl
  | syncing =>
    dsimp only
    split
    · rfl
    · split
      · rename_i h12
        cases frameDecode (Frame.ofList (rx.rxBuf ++ [b]) h12) <;> rfl
      · rfl

theorem clockTimer_joinSides (c : Cfg) (rx tx : State) :
    clockTimer c (joinSides rx tx) = joinSides rx (clockTimer c tx) := by
  unfold clockTimer joinSides
  split <;> rfl

theorem dequeueNext_joinSides (rx tx : State) :
    dequeueNext (joinSides rx tx) = ((dequeueNext tx).1, joinSides rx (dequeueNext tx).2) := by
  rcases dequeueNext_cases tx with ⟨h, he⟩ | ⟨f, r, h1, h⟩ | ⟨f, r, h1, h2, h⟩ | ⟨f, r, h1, h2, h3, h⟩ <;> rw [h]
  · have h1 : tx.qHigh = [] := he .high
    have h2 : tx.qMid = [] := he .mid
    have h3 : tx.qLow = [] := he .low
    simp [dequeueNext, joinSides, h1, h2, h3]
  · simp [dequeueNext, joinSides, State.setQ, h1]
  · simp [dequeueNext, joinSides, State.setQ, h1, h2]
  · simp [dequeueNext, joinSides, State.setQ, h1, h2, h3]

theorem serviceTick_joinSides (rx tx : State) : serviceTick (joinSides rx tx) = joinSides rx (serviceTick tx) := by
  have hdeq := dequeueNext_joinSides rx { tx with tickPend := false }
  change dequeueNext { joinSides rx tx with tickPend := false } = _ at hdeq
  unfold serviceTick
  rw [hdeq]
  rcases dequeueNext { tx with tickPend := false } with ⟨_ | f, u⟩ <;> rfl

/-- The four transmit-side operations work on the transmit side whatever the receive side. -/
theorem exec_joinSides {i : Instr} {tx t : State} (rx : State) (hi : i ∈ [Instr.clk, Instr.tick, Instr.sched, Instr.txb])
    (h : exec i tx = .next t) : exec i (joinSides rx tx) = .next (joinSides rx t) := by
  simp only [List.mem_cons, List.not_mem_nil, or_false] at hi
  rcases hi with rfl | rfl | rfl | rfl
  · cases h
    exact congrArg Outcome.next (clockTimer_joinSides Config.cfg rx tx)
  · cases h
    rfl
  · change schedule tx = _ at h
    rcases schedule_cases tx with ⟨hpend, hidle, he⟩ | ⟨_, he⟩ <;> rw [he] at h <;> cases h
    change schedule (joinSides rx tx) = _
    rcases schedule_cases (joinSides rx tx) with ⟨_, _, he'⟩ | ⟨hdis, _⟩
    · rw [he', serviceTick_joinSides]
    · simp [joinSides, hpend, hidle] at hdis
  · change transmitByte tx = _ at h
    rcases transmitByte_cases tx with ⟨hlt, he⟩ | ⟨_, he⟩ <;> rw [he] at h <;> cases h
    exact dif_pos (c := (joinSides rx tx).txIdx < 12) hlt

/-- Settles O31: both orders end in the state of RXB on the receive side and of the other operation on the transmit
side. -/
theorem receiveAndTransmitCommute : Obligations.ReceiveAndTransmitCommute := by
  intro b i s t hi h
  have ht : t = joinSides s t := by
    have hboth := exec_joinSides s hi h
    rw [joinSides_self, h] at hboth
    exact Outcome.next.inj hboth
  have hr : receiveByte b s = joinSides (receiveByte b s) s := by
    rw [← receiveByte_joinSides, joinSides_self]
  refine ⟨receiveByte b s, joinSides (receiveByte b s) t, rfl, ?_, congrArg Outcome.next ?_⟩
  · rw [hr]
    exact exec_joinSides _ hi h
  · conv_lhs => rw [ht]
    exact receiveByte_joinSides b s t

/-! A frame as its bytes (R50, R66). -/

/-- RXB goes on from every state, so bytes received one in each cycle do. -/
theorem receiveEach_eq (bs : List Byte) (s : State) : receiveEach bs s = .next (receiveBytes bs s) := by
  induction bs generalizing s with
  | nil => rfl
  | cons b bs ih => exact ih (receiveByte b (pulsesLow s))

/-- An inbound frame event is the reception of the frame's bytes. -/
theorem wireFrame_inbound (f : Frame) (s : State) :
    ∃ t, wireFrame .inbound f s = .next t ∧ receiveEach f.toList s = .next t :=
  ⟨_, rfl, receiveEach_eq f.toList s⟩

/-- Settles O34: each row is the inbound event of a frame whose bytes, in wire order, are those listed. -/
theorem inboundFrameIsTwelveReceivedBytes : Obligations.InboundFrameIsTwelveReceivedBytes := fun s =>
  ⟨fun c cs p => wireFrame_inbound (cmdFrame c cs p) s,
    fun cs w => wireFrame_inbound (cmdFrame Config.cmdVelocity cs (f32Payload w)) s,
    fun cs w => wireFrame_inbound (cmdFrame Config.cmdAngle cs (f32Payload w)) s,
    fun cs m => wireFrame_inbound (cmdFrame Config.cmdRotate cs (modePayload m)) s,
    fun cls cs u4 u5 u6 u7 angle u10 u11 => wireFrame_inbound (tlmFrame cls cs u4 u5 u6 u7 angle u10 u11) s⟩

/-! The operations of one clock edge (R60, R88): of TXB and SCHED at most one falls on an edge, and no other operation
of the edge takes its enabling condition away. -/

/-- TXB and SCHED, the operations with an enabling condition. -/
def isGuarded : Instr → Bool
  | .txb => true
  | .sched => true
  | _ => false

/-- An operation that may fall on an edge without reset. -/
def onEdge (i : Instr) : Bool := singleCycle i && i != .reset

/-- The enabling conditions of R155 and R153. -/
def Enabled (s : State) (i : Instr) : Prop :=
  (i = .txb → s.txIdx < 12) ∧ (i = .sched → s.tickPend = true ∧ s.txIdx = 12)

theorem enabled_of_unguarded (s : State) {i : Instr} (hg : isGuarded i = false) : Enabled s i := by
  constructor <;> rintro rfl <;> cases hg

/-- An enabled operation of an edge goes on. -/
theorem exec_of_enabled {i : Instr} {s : State} (hi : onEdge i = true) (h : Enabled s i) :
    ∃ t, exec i s = .next t := by
  obtain ⟨htxb, hsched⟩ := h
  cases i with
  | txb =>
    rcases transmitByte_cases s with ⟨_, he⟩ | ⟨hge, _⟩
    · exact ⟨_, he⟩
    · exact absurd (htxb rfl) (Nat.not_lt.mpr hge)
  | sched =>
    obtain ⟨hpend, hidle⟩ := hsched rfl
    rcases schedule_cases s with ⟨_, _, he⟩ | ⟨hdis, _⟩
    · exact ⟨_, he⟩
    · simp [hpend, hidle] at hdis
  | cmd way | cmdVelocity way | cmdAngle way | cmdRotate way => cases way <;> cases hi
  | tlm => cases hi
  | _ => exact ⟨_, rfl⟩

/-- An operation of an edge without a condition of its own keeps `tx_idx` and does not clear `tick_pend`. -/
theorem exec_unguarded_keeps {i : Instr} {s t : State} (hi : onEdge i = true) (hg : isGuarded i = false)
    (he : exec i s = .next t) : t.txIdx = s.txIdx ∧ (s.tickPend = true → t.tickPend = true) := by
  obtain ⟨_, _, _, hpend, _, hidx, _⟩ := onlyTheOwnersWriteAnElement i s t he
  cases i with
  | txb | sched => cases hg
  | reset | tlm => cases hi
  | cmd way | cmdVelocity way | cmdAngle way | cmdRotate way => cases way <;> cases hi
  | tick => cases he; exact ⟨rfl, fun _ => rfl⟩
  | clk =>
    cases he
    rcases clockTimer_cases Config.cfg s with ⟨_, hc⟩ | ⟨_, hc⟩ <;> rw [hc]
    · exact ⟨rfl, fun _ => rfl⟩
    · exact ⟨rfl, id⟩
  | _ => exact ⟨hidx rfl, (hpend rfl).trans⟩

/-- Such an operation leaves the others enabled. -/
theorem Enabled.of_exec_unguarded {i j : Instr} {s t : State} (h : Enabled s j) (hi : onEdge i = true)
    (hg : isGuarded i = false) (he : exec i s = .next t) : Enabled t j := by
  obtain ⟨hidx, hpend⟩ := exec_unguarded_keeps hi hg he
  obtain ⟨htxb, hsched⟩ := h
  refine ⟨fun hj => hidx ▸ htxb hj, fun hj => ?_⟩
  obtain ⟨hp, hidle⟩ := hsched hj
  exact ⟨hpend hp, hidx.trans hidle⟩

/-- Enabled operations of an edge, at most one of them TXB or SCHED, go on in the order of the list. -/
theorem runOps_of_enabled (ops : List Instr) (s : State) (hedge : ∀ i ∈ ops, onEdge i = true)
    (hen : ∀ i ∈ ops, Enabled s i) (hone : ops.countP isGuarded ≤ 1) : ∃ t, runOps ops s = .next t := by
  induction ops generalizing s with
  | nil => exact ⟨s, rfl⟩
  | cons i is ih =>
    obtain ⟨hi, his⟩ := List.forall_mem_cons.mp hedge
    obtain ⟨heni, henis⟩ := List.forall_mem_cons.mp hen
    obtain ⟨s', hexec⟩ := exec_of_enabled hi heni
    rw [List.countP_cons] at hone
    have hrest : ∀ j ∈ is, Enabled s' j := by
      intro j hj
      cases hg : isGuarded i with
      | false => exact (henis j hj).of_exec_unguarded hi hg hexec
      | true =>
        have hnone : is.countP isGuarded = 0 := by simp only [hg, if_true] at hone; omega
        exact enabled_of_unguarded s' (by simpa using List.countP_eq_zero.mp hnone j hj)
    obtain ⟨t, ht⟩ := ih s' his hrest (by omega)
    exact ⟨t, (runOps_cons_next i is s t).mpr ⟨s', hexec, ht⟩⟩

/-- What the decoder reads from a submission is a submission. -/
theorem submission_of_decodeSubmit {op : Byte} {bs : List Byte} {i : Instr} (h : decodeSubmit op bs = .ok i) :
    (submission i).isSome = true := by
  unfold decodeSubmit at h
  split at h
  · dsimp only at h
    split at h
    · cases h
    · split at h
      · cases h
      · split_ifs at h <;> cases h <;> rfl
  · cases h

theorem onEdge_of_submission {i : Instr} (h : (submission i).isSome = true) :
    onEdge i = true ∧ isGuarded i = false := by
  cases i with
  | submitRaw | submitEnc | submitVel | submitAng | submitRot => exact ⟨rfl, rfl⟩
  | _ => cases h

/-- A defined submission on the pins is an operation without a condition, if there is one. -/
theorem pinSubmit_ok {p : Pins} {subs : List Instr} (h : pinSubmit p = .ok subs) :
    ∀ i ∈ subs, onEdge i = true ∧ isGuarded i = false := by
  unfold pinSubmit at h
  split at h
  · split at h
    · rename_i i hi
      cases h
      simpa using onEdge_of_submission (submission_of_decodeSubmit hi)
    · cases h
  · cases h
    simp

theorem pinClear_ok (p : Pins) : ∀ i ∈ pinClear p, onEdge i = true ∧ isGuarded i = false := by
  unfold pinClear
  split
  · simpa using ⟨rfl, rfl⟩
  · simp

/-- TXB and SCHED, where their conditions hold: at most one of them, and no other operation. -/
def guardedOps (p : Pins) (s : State) : List Instr :=
  (if txValid s && p.txReady then [.txb] else []) ++ (if schedEnabled s then [.sched] else [])

/-- They are enabled, and at most one of them occurs: `tx_idx` is below 12 for TXB and 12 for SCHED. -/
theorem guardedOps_ok (p : Pins) (s : State) :
    (∀ i ∈ guardedOps p s, onEdge i = true ∧ Enabled s i) ∧ (guardedOps p s).countP isGuarded ≤ 1 := by
  by_cases htx : (txValid s && p.txReady) = true
  · have hlt : s.txIdx < 12 := by
      obtain ⟨hvalid, _⟩ := (Bool.and_eq_true _ _).mp htx
      exact of_decide_eq_true hvalid
    have hsched : schedEnabled s = false := by simp [schedEnabled, hlt.ne]
    have hops : guardedOps p s = [.txb] := by simp only [guardedOps, htx, hsched, if_true]; rfl
    rw [hops]
    simp [Enabled, hlt, onEdge, singleCycle, inbound, outbound, isGuarded]
  · by_cases hsched : schedEnabled s = true
    · have hops : guardedOps p s = [.sched] := by simp only [guardedOps, htx, hsched, if_true]; rfl
      have hcond : s.tickPend = true ∧ s.txIdx = 12 := by simpa [schedEnabled] using hsched
      rw [hops]
      simp [Enabled, hcond, onEdge, singleCycle, inbound, outbound, isGuarded]
    · have hops : guardedOps p s = [] := by simp only [guardedOps, htx, hsched]; rfl
      simp [hops]

/-- The operations of an edge other than the clear, apart from the order: TXB and SCHED where their conditions hold,
and operations without a condition. -/
theorem pinOthers_ok {p : Pins} {s : State} {others : List Instr} (h : pinOthers p s = .ok others) :
    ∃ free, others.Perm (free ++ guardedOps p s) ∧ ∀ i ∈ free, onEdge i = true ∧ isGuarded i = false := by
  unfold pinOthers at h
  split at h
  · cases h
  · rename_i subs hsubs
    cases h
    refine ⟨.clk :: (subs ++ [if p.rxValid then .rxb p.rxData else .rxe]), ?_, ?_⟩
    · rw [List.append_assoc (subs ++ _)]
      exact List.perm_append_comm
    · have hrx : ∀ q : Bool, onEdge (if q then .rxb p.rxData else .rxe) = true ∧
          isGuarded (if q then .rxb p.rxData else .rxe) = false := fun q => by cases q <;> exact ⟨rfl, rfl⟩
      intro i hi
      simp only [List.mem_cons, List.mem_append, List.not_mem_nil, or_false] at hi
      rcases hi with rfl | hi | rfl
      · exact ⟨rfl, rfl⟩
      · exact pinSubmit_ok hsubs i hi
      · exact hrx p.rxValid

/-- Every order of operations without a condition and of those whose conditions hold goes on. -/
theorem runOps_of_perm_edge {p : Pins} {s : State} {free ops : List Instr}
    (hfree : ∀ i ∈ free, onEdge i = true ∧ isGuarded i = false) (hp : ops.Perm (free ++ guardedOps p s)) :
    ∃ t, runOps ops (startCycle s.events s) = .next t := by
  obtain ⟨hguarded, hone⟩ := guardedOps_ok p s
  have hall : ∀ i ∈ ops, onEdge i = true ∧ Enabled s i := by
    intro i hi
    rcases List.mem_append.mp (hp.mem_iff.mp hi) with hi | hi
    · obtain ⟨hedge, hg⟩ := hfree i hi
      exact ⟨hedge, enabled_of_unguarded s hg⟩
    · exact hguarded i hi
  have hnone : free.countP isGuarded = 0 := by
    rw [List.countP_eq_zero]
    intro i hi
    simp [(hfree i hi).right]
  refine runOps_of_enabled ops _ (fun i hi => (hall i hi).left) (fun i hi => (hall i hi).right) ?_
  rw [hp.countP_eq, List.countP_append, hnone, Nat.zero_add]
  exact hone

/-- Settles O51: of the operations of the edge, the clear among them, at most one has a condition, and it holds. -/
theorem everyOrderOfAnEdgeCompletes : Obligations.EveryOrderOfAnEdgeCompletes := by
  intro p s others hrst hothers
  obtain ⟨free, hperm, hfree⟩ := pinOthers_ok hothers
  have hgoes : ∀ ops : List Instr, ops.Perm (pinClear p ++ others) →
      ∃ t, runOps ops (startCycle s.events s) = .next t := by
    intro ops hops
    refine runOps_of_perm_edge (p := p) (free := pinClear p ++ free)
      (List.forall_mem_append.mpr ⟨pinClear_ok p, hfree⟩) (hops.trans ?_)
    rw [List.append_assoc]
    exact hperm.append_left _
  refine ⟨hgoes, fun ops hops => ?_⟩
  obtain ⟨t, ht⟩ := hgoes _ (hops.append_left (pinClear p))
  exact ⟨t, ht, by simpa [EdgeStep, hrst] using ⟨others, hothers, ops, hops, ht⟩⟩

end Sys2Proof.MemoryProofs

namespace Sys2Proof.EncodingProofs

open Machine Safety MemoryProofs

/-! Records of single operations. -/

/-- Settles O1: every operation is read back from its record, form by form. -/
theorem decodeInvertsEncode : Obligations.DecodeInvertsEncode := decode_encode

/-- Settles O3: the sample records are the encoder's, so the decoder reads their operations back. -/
theorem sampleRecordsDecode : Obligations.SampleRecordsDecode :=
  ⟨decode_encode (.submitVel .high 0xC0200000) rfl, decode_encode (.submitRot .high 0x01) rfl,
    decode_encode (.submitAng .mid 0x42B40000) rfl, decode_encode (.tlm 0x01 0xDB 0 0 0 0 0x4000 0 0) rfl,
    decode_encode (.cmdVelocity .inbound 0x89 0xC0200000) rfl⟩

/-! The submit opcode as a number, and the records that begin with one (R84 to R86, R91, R92). -/

theorem submitOp_toNat (k : BitVec 3) (t : Tier) : (submitOp k t).toNat = 4 * k.toNat + (tierCode t).toNat := by
  revert k
  cases t <;> decide

/-- An opcode byte is determined by the kind and the tier that it selects. -/
theorem eq_submitOp {op : Byte} {k : BitVec 3} {t : Tier} (hkind : op.toNat / 4 = k.toNat)
    (htier : op.toNat % 4 = (tierCode t).toNat) : op = submitOp k t := by
  apply BitVec.eq_of_toNat_eq
  rw [submitOp_toNat]
  omega

theorem submitKind_toNat {op : Byte} (h : op.toNat < 32) : (op.extractLsb' 2 3).toNat = op.toNat / 4 := by
  rw [BitVec.extractLsb'_toNat, Nat.shiftRight_eq_div_pow]
  omega

theorem submitTier_toNat (op : Byte) : (op.extractLsb' 0 2).toNat = op.toNat % 4 := by
  simp [BitVec.extractLsb'_toNat]

/-- The tier code 11 is reserved (R92). -/
theorem tierOf_eq_none {code : BitVec 2} (h : code.toNat = 3) : tierOf code = none := by
  have hcode : code = 3 := BitVec.eq_of_toNat_eq h
  rw [hcode]
  rfl

section Submission

variable {op : Byte} (d0 d1 d2 d3 d4 d5 d6 d7 d8 d9 d10 d11 : Byte) (rest : List Byte)

/-- A reserved kind is refused before the tier is looked at (R91). -/
theorem decode_reservedKind (hop : op.toNat < 32) (hkind : 5 ≤ op.toNat / 4) :
    decode (op :: d0 :: d1 :: d2 :: d3 :: d4 :: d5 :: d6 :: d7 :: d8 :: d9 :: d10 :: d11 :: rest) =
      .error (.reservedKind op) := by
  rw [decode, if_pos hop, decodeSubmit, if_pos (by rwa [submitKind_toNat hop])]

theorem decode_reservedTier (hop : op.toNat < 32) (hkind : op.toNat / 4 < 5) (htier : op.toNat % 4 = 3) :
    decode (op :: d0 :: d1 :: d2 :: d3 :: d4 :: d5 :: d6 :: d7 :: d8 :: d9 :: d10 :: d11 :: rest) =
      .error (.reservedTier op) := by
  have hnone : tierOf (op.extractLsb' 0 2) = none := tierOf_eq_none (by rwa [submitTier_toNat])
  rw [decode, if_pos hop, decodeSubmit, if_neg (by rwa [submitKind_toNat hop, Nat.not_le])]
  simp only [hnone]

/-- The opcode byte of a submission is the one of its kind and tier, and bytes after `sub_data` are ignored
(entry 2). -/
theorem decode_submission {k : BitVec 3} {t : Tier} (hop : op.toNat < 32) (hkind : op.toNat / 4 = k.toNat)
    (htier : op.toNat % 4 = (tierCode t).toNat) :
    decode (op :: d0 :: d1 :: d2 :: d3 :: d4 :: d5 :: d6 :: d7 :: d8 :: d9 :: d10 :: d11 :: rest) =
      decode [submitOp k t, d0, d1, d2, d3, d4, d5, d6, d7, d8, d9, d10, d11] := by
  rw [← eq_submitOp hkind htier]
  simp only [decode, if_pos hop, decodeSubmit]

/-- A defined opcode's record is a submission to the tier that its code names. -/
theorem decode_submitOp_submission (k : BitVec 3) (t : Tier) (hk : k.toNat < 5) :
    ∃ i f, decode [submitOp k t, d0, d1, d2, d3, d4, d5, d6, d7, d8, d9, d10, d11] = .ok i ∧
      submission i = some (t, f) := by
  rw [decode_submitOp k t hk]
  split_ifs <;> exact ⟨_, _, rfl, rfl⟩

end Submission

/-- Settles O4: a reserved code by its clause of the decoder, a defined opcode by the two fields it is made of. -/
theorem reservedSubmissionsRefused : Obligations.ReservedSubmissionsRefused := by
  intro op d0 d1 d2 d3 d4 d5 d6 d7 d8 d9 d10 d11 rest es s hop hev
  refine ⟨fun hkind => step_of_decode_error hev (decode_reservedKind (hop := hop) (hkind := hkind) ..),
    fun hkind htier => step_of_decode_error hev (decode_reservedTier (hop := hop) (hkind := hkind) (htier := htier) ..),
    fun t ht => ?_⟩
  have htier : op.toNat % 4 = (tierCode t).toNat := by
    obtain ⟨h, rfl⟩ | ⟨h, rfl⟩ | ⟨h, rfl⟩ := ht <;> exact h
  have hread (k : BitVec 3) (hk : op.toNat / 4 = k.toNat) :=
    decode_submission d0 d1 d2 d3 d4 d5 d6 d7 d8 d9 d10 d11 rest hop hk htier
  have hkind (k : BitVec 3) (hk5 : k.toNat < 5) (hk : op.toNat / 4 = k.toNat) :=
    step_of_decode hev ((hread k hk).trans (decode_submitOp k t hk5 ..))
  refine ⟨hkind 0 (by decide), hkind 1 (by decide), hkind 2 (by decide), hkind 3 (by decide), hkind 4 (by decide),
    fun hk5 => ?_⟩
  have hk : op.toNat / 4 = (BitVec.ofNat 3 (op.toNat / 4)).toNat := by rw [BitVec.toNat_ofNat]; omega
  obtain ⟨i, f, hi, hf⟩ := decode_submitOp_submission d0 d1 d2 d3 d4 d5 d6 d7 d8 d9 d10 d11 _ t (hk ▸ hk5)
  have hdec := (hread _ hk).trans hi
  exact ⟨i, f, hdec, hf, step_of_decode hev hdec⟩

/-! Frames in wire order: what the decoder reads from one, and the rows that it fits (R76 to R81). -/

theorem extractLsb'_above_byte {v : Nat} (hi : BitVec v) (lo : Byte) (k : Nat) :
    (hi ++ lo).extractLsb' (k + 8) 8 = hi.extractLsb' k 8 := by
  rw [BitVec.extractLsb'_append_eq_of_le (Nat.le_add_left 8 k), Nat.add_sub_cancel]

@[simp] theorem f32Payload_le32 (b0 b1 b2 b3 : Byte) : f32Payload (le32 b0 b1 b2 b3) = #v[b0, b1, b2, b3, 0, 0, 0, 0] := by
  have h0 : (le32 b0 b1 b2 b3).extractLsb' 0 8 = b0 := BitVec.extractLsb'_append_eq_right
  have h1 : (le32 b0 b1 b2 b3).extractLsb' 8 8 = b1 :=
    (extractLsb'_above_byte _ b0 0).trans BitVec.extractLsb'_append_eq_right
  have h2 : (le32 b0 b1 b2 b3).extractLsb' 16 8 = b2 :=
    (extractLsb'_above_byte _ b0 8).trans ((extractLsb'_above_byte _ b1 0).trans BitVec.extractLsb'_append_eq_right)
  have h3 : (le32 b0 b1 b2 b3).extractLsb' 24 8 = b3 :=
    (extractLsb'_above_byte _ b0 16).trans
      ((extractLsb'_above_byte _ b1 8).trans BitVec.extractLsb'_append_eq_left)
  simp only [f32Payload, h0, h1, h2, h3]

@[simp] theorem lo16_s16 (lo hi : Byte) : lo16 (s16 lo hi) = lo := BitVec.extractLsb'_append_eq_right

@[simp] theorem hi16_s16 (lo hi : Byte) : hi16 (s16 lo hi) = hi :=
  BitVec.extractLsb'_append_eq_left

/-- The frame events and the frame that each stands for, in each direction it has (R76 to R79, entry 4). -/
inductive IsFrameEvent : Way → Instr → Frame → Prop
  | cmd (way : Way) (c cs : Byte) (p : Payload) : IsFrameEvent way (.cmd way c cs p) (cmdFrame c cs p)
  | cmdVelocity (way : Way) (cs : Byte) (w : BitVec 32) :
    IsFrameEvent way (.cmdVelocity way cs w) (cmdFrame Config.cmdVelocity cs (f32Payload w))
  | cmdAngle (way : Way) (cs : Byte) (w : BitVec 32) :
    IsFrameEvent way (.cmdAngle way cs w) (cmdFrame Config.cmdAngle cs (f32Payload w))
  | cmdRotate (way : Way) (cs mode : Byte) :
    IsFrameEvent way (.cmdRotate way cs mode) (cmdFrame Config.cmdRotate cs (modePayload mode))
  | tlm (cls cs u4 u5 u6 u7 : Byte) (angle : BitVec 16) (u10 u11 : Byte) :
    IsFrameEvent .inbound (.tlm cls cs u4 u5 u6 u7 angle u10 u11) (tlmFrame cls cs u4 u5 u6 u7 angle u10 u11)

/-- The record of a frame event is its frame, so no bit is dropped. -/
theorem IsFrameEvent.encode_eq {way : Way} {i : Instr} {f : Frame} (h : IsFrameEvent way i f) :
    encode i = wireRecord way f := by
  cases h <;> rfl

theorem IsFrameEvent.outbound_eq {i : Instr} {f : Frame} (h : IsFrameEvent .outbound i f) : outbound i = true := by
  cases h <;> rfl

/-- The frame of a frame event matches the event's own row. -/
theorem IsFrameEvent.fits_row {way : Way} {i : Instr} {f : Frame} (h : IsFrameEvent way i f) :
    ∃ r ∈ frameRows, r.mnemonic = i.mnemonic ∧ r.fits f = true := by
  cases h <;> simp [frameRows, Instr.mnemonic, FrameRow.fits, cmdFrame, tlmFrame, f32Payload, modePayload]

/-- The operation read from twelve bytes is the event of just those bytes, whichever row names it (entry 5). -/
theorem isFrameEvent_of_decodeWire_bytes {way : Way} {i : Instr} {f0 f1 f2 f3 f4 f5 f6 f7 f8 f9 f10 f11 : Byte}
    (h : decodeWire way [f0, f1, f2, f3, f4, f5, f6, f7, f8, f9, f10, f11] = .ok i) :
    IsFrameEvent way i #v[f0, f1, f2, f3, f4, f5, f6, f7, f8, f9, f10, f11] := by
  simp only [decodeWire] at h
  split_ifs at h with hsync hvel hang hrot htlm hcmd <;> cases h <;> obtain rfl := not_not.mp hsync
  · obtain ⟨rfl, rfl, rfl, rfl, rfl, rfl⟩ := hvel
    simpa [cmdFrame] using IsFrameEvent.cmdVelocity way f3 (le32 f4 f5 f6 f7)
  · obtain ⟨rfl, rfl, rfl, rfl, rfl, rfl⟩ := hang
    simpa [cmdFrame] using IsFrameEvent.cmdAngle way f3 (le32 f4 f5 f6 f7)
  · obtain ⟨rfl, rfl, rfl, rfl, rfl, rfl, rfl, rfl, rfl⟩ := hrot
    exact .cmdRotate way f3 f4
  · obtain ⟨rfl, rfl⟩ := htlm
    simpa [tlmFrame] using IsFrameEvent.tlm f1 f3 f4 f5 f6 f7 (s16 f8 f9) f10 f11
  · obtain rfl := hcmd
    exact .cmd way f2 f3 #v[f4, f5, f6, f7, f8, f9, f10, f11]

theorem isFrameEvent_of_decodeWire {way : Way} {f : Frame} {i : Instr} (h : decodeWire way f.toList = .ok i) :
    IsFrameEvent way i f := by
  rw [frame_toList] at h
  exact frame_eta f ▸ isFrameEvent_of_decodeWire_bytes h

/-- A frame has a meaning exactly when it is a command, or arrives with the telemetry marker (R76, R79). -/
theorem decodeWire_ok_iff (way : Way) (f : Frame) :
    (∃ i, decodeWire way f.toList = .ok i) ↔
      f[0] = Config.sync ∧ (f[1] = Config.classCmd ∨ way = .inbound ∧ f[2] = Config.rxMark) := by
  rw [frame_toList, decodeWire]
  split_ifs <;> simp_all

/-- A row is matched byte by byte, in R81's own words. -/
theorem fits_iff (r : FrameRow) (f : Frame) :
    r.fits f = true ↔ ∀ (k : Nat) (hk : k < 12), f[k] &&& r.mask[k] = r.pattern[k] := by
  simp [FrameRow.fits, List.ext_getElem_iff]

/-- A byte under the mask 0xFF is the row's own. -/
theorem byte_of_fits {r : FrameRow} {f : Frame} {k : Nat} {b : Byte} (hk : k < 12) (hfits : r.fits f = true)
    (hrow : r.mask[k] = 0xFF ∧ r.pattern[k] = b) : f[k] = b := by
  have hbyte := (fits_iff r f).mp hfits k hk
  rw [hrow.1, hrow.2] at hbyte
  exact BitVec.and_allOnes.symm.trans hbyte

theorem row_fixes_sync : ∀ r ∈ frameRows, r.mask[0] = 0xFF ∧ r.pattern[0] = Config.sync := by decide

theorem cmd_row_fixes_class :
    ∀ r ∈ frameRows, r.mnemonic ≠ "TLM" → r.mask[1] = 0xFF ∧ r.pattern[1] = Config.classCmd := by decide

theorem tlm_row_fixes_mark :
    ∀ r ∈ frameRows, r.mnemonic = "TLM" → r.mask[2] = 0xFF ∧ r.pattern[2] = Config.rxMark := by decide

/-- Some CMD row is matched exactly by the frames of the command class, because the generic row is one of them. -/
theorem fits_cmd_row_iff (f : Frame) :
    (∃ r ∈ frameRows, r.mnemonic ≠ "TLM" ∧ r.fits f = true) ↔ f[0] = Config.sync ∧ f[1] = Config.classCmd := by
  constructor
  · rintro ⟨r, hr, hcmd, hfits⟩
    exact ⟨byte_of_fits (by decide) hfits (row_fixes_sync r hr),
      byte_of_fits (by decide) hfits (cmd_row_fixes_class r hr hcmd)⟩
  · rintro ⟨hsync, hclass⟩
    exact ⟨_, List.mem_cons_self, by decide, by simp [FrameRow.fits, frame_toList, hsync, hclass]⟩

/-- A frame that matches some row is a command or has the telemetry marker. -/
theorem class_or_mark_of_fits {r : FrameRow} {f : Frame} (hr : r ∈ frameRows) (hfits : r.fits f = true) :
    f[0] = Config.sync ∧ (f[1] = Config.classCmd ∨ f[2] = Config.rxMark) := by
  refine ⟨byte_of_fits (by decide) hfits (row_fixes_sync r hr), ?_⟩
  by_cases htlm : r.mnemonic = "TLM"
  · exact .inr (byte_of_fits (by decide) hfits (tlm_row_fixes_mark r hr htlm))
  · exact .inl (byte_of_fits (by decide) hfits (cmd_row_fixes_class r hr htlm))

/-- Settles O2: in both directions the operation read is the event of the whole frame, and one is read just from the
frames of the command class and, inbound, those with the telemetry marker. -/
theorem wireDecodingFollowsFrameRows : Obligations.WireDecodingFollowsFrameRows := by
  refine ⟨fun f i h => ?_, fun f h => ?_, fun f i h => ?_, fun f => ?_⟩
  · have hev := isFrameEvent_of_decodeWire h
    exact ⟨hev.encode_eq, hev.fits_row⟩
  · obtain ⟨r, hr, hfits⟩ := h
    simpa [decodeWire_ok_iff] using class_or_mark_of_fits hr hfits
  · have hev : IsFrameEvent .outbound i f := isFrameEvent_of_decodeWire h
    exact ⟨hev.encode_eq, hev.outbound_eq, hev.fits_row⟩
  · rw [fits_cmd_row_iff]
    exact (decodeWire_ok_iff .outbound f).trans (by simp)

end Sys2Proof.EncodingProofs

namespace Sys2Proof.CodecProofs

open Machine Safety

/-! The checksum as a sum of bytes, in 8 bits and in numbers (R105, R106). -/

/-- The 8-bit accumulator sums its bytes in the ring of bytes, which is why their order does not matter. -/
theorem accumulate_eq_sum (bs : List Byte) : accumulate bs = bs.sum := List.sum_eq_foldl.symm

theorem csum_eq_sum_summedBytes (f : Frame) : csum f = (summedBytes f).sum := by
  simp only [csum, summedBytes, List.sum_cons, List.sum_nil]
  ring

/-- Byte 3 is the one byte of the frame that the checksum leaves out. -/
theorem csum_add_checksumByte (f : Frame) : csum f + f[3] = f.toList.sum := by
  rw [frame_toList]
  simp only [csum, List.sum_cons, List.sum_nil]
  ring

/-- Dropping the carry at each addition is one reduction at the end. -/
theorem toNat_sum_bytes (bs : List Byte) : bs.sum.toNat = (bs.map BitVec.toNat).sum % 256 := by
  induction bs with
  | nil => rfl
  | cons b bs ih => simp [BitVec.toNat_add, ih]

@[simp] theorem csum_set_checksumByte (f : Frame) (b : Byte) : csum (f.set 3 b) = csum f := by
  simp [csum]

theorem csumOk_iff (f : Frame) : csumOk f = true ↔ csum f = f[3] := beq_iff_eq

/-- The checksum test on all twelve bytes at once. -/
theorem csumOk_iff_sum (f : Frame) : csumOk f = true ↔ f.toList.sum = f[3] + f[3] := by
  rw [csumOk_iff, ← csum_add_checksumByte, add_left_inj]

/-- Storing the checksum at its offset makes a frame good. -/
theorem csumOk_set_csum (f : Frame) : csumOk (f.set 3 (csum f)) = true := by
  simp [csumOk_iff]

/-- Settles O52: the checksum is the sum of the summed bytes, which a permutation of them keeps. -/
theorem checksumIsTheSumModulo256 : Obligations.ChecksumIsTheSumModulo256 := by
  refine fun f => ⟨?_, csum_set_checksumByte f, fun l hperm => ?_⟩
  · rw [csum_eq_sum_summedBytes, toNat_sum_bytes]
    simp [summedBytes, Nat.add_assoc]
  · rw [accumulate_eq_sum, hperm.sum_eq, ← csum_eq_sum_summedBytes]

/-! The decoder, one equation for each clause of R113. -/

theorem frameDecode_of_sync_ne {f : Frame} (hsync : f[0] ≠ Config.sync) : frameDecode f = .error .framingDesync :=
  if_pos hsync

/-- A wrong marker is a desync whether or not the sync byte is right. -/
theorem frameDecode_of_mark_ne {f : Frame} (hmark : f[2] ≠ Config.rxMark) : frameDecode f = .error .framingDesync := by
  rw [frameDecode, if_pos hmark, ite_self]

/-- Behind a right sync byte and marker the checksum test decides. -/
theorem frameDecode_of_header {f : Frame} (hsync : f[0] = Config.sync) (hmark : f[2] = Config.rxMark) :
    frameDecode f = if csumOk f = true then .ok (s16 f[8] f[9]) else .error .checksumMismatch := by
  simp only [frameDecode, csumOk_iff, hsync, hmark, ne_eq, not_true_eq_false, if_false, ite_not]

theorem csumOk_of_frameDecode_ok {f : Frame} {n : BitVec 16} (h : frameDecode f = .ok n) : csumOk f = true := by
  by_cases hsync : f[0] = Config.sync
  · by_cases hmark : f[2] = Config.rxMark
    · by_contra hbad
      rw [frameDecode_of_header hsync hmark, if_neg hbad] at h
      cases h
    · rw [frameDecode_of_mark_ne hmark] at h
      cases h
  · rw [frameDecode_of_sync_ne hsync] at h
    cases h

/-- The angle's signed value: the high byte's bit 7 is the sign (R11, R82). -/
theorem s16_toInt (lo hi : Byte) :
    (s16 lo hi).toInt =
      if hi.toNat < 128 then (hi.toNat * 256 + lo.toNat : Int) else hi.toNat * 256 + lo.toNat - 65536 := by
  have hnat : (s16 lo hi).toNat = hi.toNat * 256 + lo.toNat := by
    rw [s16, BitVec.toNat_append, ← Nat.shiftLeft_add_eq_or_of_lt lo.isLt, Nat.shiftLeft_eq]
  rw [BitVec.toInt_eq_toNat_cond, hnat]
  split_ifs <;> omega

/-- Settles O53: with byte 3 added on both sides, the test compares the sum of all twelve bytes with twice byte 3. -/
theorem checksumTestIsTwiceByteThree : Obligations.ChecksumTestIsTwiceByteThree := by
  refine fun f => ⟨csumOk_iff f, ?_, fun n => csumOk_of_frameDecode_ok⟩
  rw [csumOk_iff_sum, ← BitVec.toNat_inj, toNat_sum_bytes, BitVec.toNat_add, ← two_mul, frame_toList]
  simp [Nat.add_assoc]

/-- Settles O55: each clause is the decoder's equation for it. -/
theorem decodeChecksSyncMarkerChecksum : Obligations.DecodeChecksSyncMarkerChecksum := by
  refine fun f => ⟨frameDecode_of_sync_ne, fun _ => frameDecode_of_mark_ne, fun hsync hmark hcsum => ?_,
    fun hsync hmark hcsum => ⟨?_, s16_toInt f[8] f[9]⟩⟩
  · rw [frameDecode_of_header hsync hmark, if_neg ((csumOk_iff f).not.mpr hcsum)]
  · exact (frameDecode_of_header hsync hmark).trans (if_pos ((csumOk_iff f).mpr hcsum))

/-! The encoder (R107 to R111). -/

theorem csumOk_frameEncode (c : Byte) (p : Payload) : csumOk (frameEncode c p) = true :=
  csumOk_set_csum (cmdFrame c 0 p)

/-- The payload stands at offsets 4 to 11 (R76). -/
theorem cmdFrame_payload (c cs : Byte) (p : Payload) {j : Nat} (hj : j < 8) : (cmdFrame c cs p)[4 + j] = p[j] := by
  interval_cases j <;> rfl

theorem frameEncode_payload (c : Byte) (p : Payload) {j : Nat} (hj : j < 8) : (frameEncode c p)[4 + j] = p[j] := by
  simp only [frameEncode_eq, cmdFrame_payload _ _ _ hj]

/-- A frame encoded from a float's bytes reads back as its pattern. -/
theorem le32_frameEncode_f32Payload (c : Byte) (w : BitVec 32) :
    le32 (frameEncode c (f32Payload w))[4] (frameEncode c (f32Payload w))[5] (frameEncode c (f32Payload w))[6]
      (frameEncode c (f32Payload w))[7] = w :=
  le32_f32le w

/-- Settles O54: the layout of the encoder's frame, the checksum stored in it, and the builders as its uses. -/
theorem encodedFramesCarryAGoodChecksum : Obligations.EncodedFramesCarryAGoodChecksum := by
  refine fun c p => ⟨⟨csumOk_frameEncode c p, rfl, rfl, rfl, fun j hj => frameEncode_payload c p hj⟩,
    fun w => ⟨rfl, rfl, ?_, ?_⟩, fun m => rfl⟩
  · exact le32_frameEncode_f32Payload Config.cmdVelocity w
  · exact le32_frameEncode_f32Payload Config.cmdAngle w

/-- Settles O56: the command id stands where the decoder looks for the marker, and the checksum is good. -/
theorem decodeRejectsEncodedCommands : Obligations.DecodeRejectsEncodedCommands := by
  refine fun c p => ⟨fun hc => frameDecode_of_mark_ne hc, ?_⟩
  exact (frameDecode_of_header rfl rfl).trans (if_pos (csumOk_frameEncode _ p))

/-! Error detection (R118). -/

/-- Changing a summed byte moves the checksum by the change. -/
theorem csum_set_summedByte (f : Frame) {k : Nat} (hk : k < 12) (h3 : k ≠ 3) (b : Byte) :
    csum (f.set k b) = csum f - f[k] + b := by
  have hsum : (f.set k b).toList.sum = f.toList.sum + (-f[k] + b) := by
    simp [Vector.toList_set, List.sum_set', hk]
  rw [← csum_add_checksumByte, ← csum_add_checksumByte, Vector.getElem_set_ne _ _ h3] at hsum
  linear_combination hsum

theorem csumOk_set_of_ne {f : Frame} (hok : csumOk f = true) {k : Nat} (hk : k < 12) {b : Byte} (hb : b ≠ f[k]) :
    csumOk (f.set k b) = false := by
  rw [csumOk_iff] at hok
  rw [Bool.eq_false_iff, ne_eq, csumOk_iff]
  by_cases h3 : k = 3
  · subst h3
    rw [csum_set_checksumByte, hok, Vector.getElem_set_self]
    exact hb.symm
  · rw [csum_set_summedByte f hk h3, Vector.getElem_set_ne _ _ h3, hok]
    intro h
    exact hb (by linear_combination h)

/-- Opposite changes of two summed bytes cancel in the sum. -/
theorem csumOk_set_opposite {f : Frame} (hok : csumOk f = true) {j k : Nat} (hj : j < 12) (hk : k < 12) (d : Byte)
    (hjk : j ≠ k) (hj3 : j ≠ 3) (hk3 : k ≠ 3) : csumOk ((f.set j (f[j] + d)).set k (f[k] - d)) = true := by
  rw [csumOk_iff] at hok ⊢
  rw [csum_set_summedByte _ hk hk3, csum_set_summedByte f hj hj3, Vector.getElem_set_ne _ _ hjk,
    Vector.getElem_set_ne _ _ hk3, Vector.getElem_set_ne _ _ hj3]
  linear_combination hok

/-- Settles O57: one change moves just one side of the checksum test, two opposite ones cancel. -/
theorem singleByteChangesAreDetected : Obligations.SingleByteChangesAreDetected :=
  fun _ hok => ⟨fun _ hk _ hb => csumOk_set_of_ne hok hk hb,
    fun _ _ hj hk d hjk hj3 hk3 => csumOk_set_opposite hok hj hk d hjk hj3 hk3⟩

/-! The angle in degrees as a binary32 pattern (R116, R117; the layout is G3, entry 15). -/

/-- The pattern with the given sign, biased exponent and fraction. -/
def binary32Pack (sign : Bool) (e frac : Nat) : BitVec 32 :=
  BitVec.ofNat 32 (sign.toNat * 2 ^ 31 + e * 2 ^ 23 + frac)

section Pack

variable {sign : Bool} {e frac : Nat} (he : e < 2 ^ 8) (hfrac : frac < 2 ^ 23)
include he hfrac

/-- The three fields fit in 32 bits. -/
theorem binary32Pack_toNat : (binary32Pack sign e frac).toNat = sign.toNat * 2 ^ 31 + e * 2 ^ 23 + frac := by
  have hsign := sign.toNat_le
  rw [binary32Pack, BitVec.toNat_ofNat, Nat.mod_eq_of_lt]
  omega

theorem binary32Pack_exponent : (binary32Pack sign e frac).toNat / 2 ^ 23 % 2 ^ 8 = e := by
  rw [binary32Pack_toNat he hfrac]
  omega

theorem binary32Pack_sign : (binary32Pack sign e frac).getLsbD 31 = sign := by
  rw [BitVec.getLsbD, Nat.testBit_eq_decide_div_mod_eq, binary32Pack_toNat he hfrac]
  cases sign <;> simp only [Bool.toNat_false, Bool.toNat_true, decide_eq_false_iff_not, decide_eq_true_eq] <;> omega

theorem binary32Magnitude_pack : binary32Magnitude (binary32Pack sign e frac) = (2 ^ 23 + frac) * 2 ^ e := by
  have hlow : (binary32Pack sign e frac).toNat % 2 ^ 23 = frac := by
    rw [binary32Pack_toNat he hfrac]
    omega
  rw [binary32Magnitude, binary32Pack_exponent he hfrac, hlow]

end Pack

/-- The fraction field of a magnitude: what stands below its leading bit, moved up to bit 22. -/
def binary32Fraction (a : Nat) : Nat := (a - 2 ^ a.log2) * 2 ^ (23 - a.log2)

theorem angleF32_zero : angleF32 0 = 0 := rfl

theorem angleF32_of_ne_zero {n : BitVec 16} (h : angleQ15 n ≠ 0) :
    angleF32 n = binary32Pack (decide (angleQ15 n < 0)) ((angleQ15 n).natAbs.log2 + 112)
      (binary32Fraction (angleQ15 n).natAbs) := by
  simp only [angleF32, if_neg h, binary32Pack, binary32Fraction, Bool.toNat, Bool.cond_decide]

/-- A non-zero magnitude below 2^23 is its significand, moved down from bit 23: no bit is rounded away. -/
theorem significand_eq {a : Nat} (hpos : a ≠ 0) (hlt : a < 2 ^ 23) :
    2 ^ 23 + binary32Fraction a = a * 2 ^ (23 - a.log2) := by
  have hlog : a.log2 < 23 := (Nat.log2_lt hpos).mpr hlt
  calc 2 ^ 23 + binary32Fraction a
      = 2 ^ a.log2 * 2 ^ (23 - a.log2) + (a - 2 ^ a.log2) * 2 ^ (23 - a.log2) := by
        rw [← pow_add, Nat.add_sub_cancel' hlog.le, binary32Fraction]
    _ = a * 2 ^ (23 - a.log2) := by rw [← Nat.add_mul, Nat.add_sub_cancel' (Nat.log2_self_le hpos)]

/-- The leading bit of the significand is bit 23. -/
theorem binary32Fraction_lt {a : Nat} (hpos : a ≠ 0) (hlt : a < 2 ^ 23) : binary32Fraction a < 2 ^ 23 := by
  have hlog : a.log2 < 23 := (Nat.log2_lt hpos).mpr hlt
  have hsig : 2 ^ 23 + binary32Fraction a < 2 ^ 24 :=
    calc 2 ^ 23 + binary32Fraction a = a * 2 ^ (23 - a.log2) := significand_eq hpos hlt
      _ < 2 ^ (a.log2 + 1) * 2 ^ (23 - a.log2) := Nat.mul_lt_mul_of_pos_right Nat.lt_log2_self (Nat.two_pow_pos _)
      _ = 2 ^ 24 := by rw [← pow_add]; congr 1; omega
  omega

/-- The exponent undoes the move of the significand, so that the value is exact. -/
theorem significand_mul_exponent {a : Nat} (hpos : a ≠ 0) (hlt : a < 2 ^ 23) :
    (2 ^ 23 + binary32Fraction a) * 2 ^ (a.log2 + 112) = a * 2 ^ 135 := by
  have hlog : a.log2 < 23 := (Nat.log2_lt hpos).mpr hlt
  rw [significand_eq hpos hlt, mul_assoc, ← pow_add]
  congr 2
  omega

theorem angleQ15_bounds (n : BitVec 16) : -5898240 ≤ angleQ15 n ∧ angleQ15 n ≤ 5898060 := by
  have hlo := BitVec.le_toInt n
  have hhi := BitVec.toInt_lt (x := n)
  unfold angleQ15
  omega

theorem angleQ15_eq_zero_iff (n : BitVec 16) : angleQ15 n = 0 ↔ n = 0 := by
  rw [angleQ15, ← BitVec.toInt_inj]
  simp

theorem angleQ15_neg_iff (n : BitVec 16) : angleQ15 n < 0 ↔ n.toInt < 0 := by
  unfold angleQ15
  omega

/-- Settles O58: the magnitude of a non-zero angle is below 2^23, so its fields are in range and hold it exactly. -/
theorem angleInDegreesIsExact : Obligations.AngleInDegreesIsExact := by
  intro n
  obtain ⟨hlo, hhi⟩ := angleQ15_bounds n
  refine ⟨⟨hlo, hhi, rfl⟩, ?_⟩
  by_cases hn : n = 0
  · subst hn
    rw [angleF32_zero]
    exact ⟨iff_of_true rfl rfl, by decide, fun h => absurd rfl h⟩
  have hq : angleQ15 n ≠ 0 := (angleQ15_eq_zero_iff n).not.mpr hn
  have hpos : (angleQ15 n).natAbs ≠ 0 := Int.natAbs_ne_zero.mpr hq
  have hlt : (angleQ15 n).natAbs < 2 ^ 23 := by omega
  have hlog : (angleQ15 n).natAbs.log2 < 23 := (Nat.log2_lt hpos).mpr hlt
  have he : (angleQ15 n).natAbs.log2 + 112 < 2 ^ 8 := by omega
  have hfrac := binary32Fraction_lt hpos hlt
  have hexp : (angleF32 n).toNat / 2 ^ 23 % 2 ^ 8 = (angleQ15 n).natAbs.log2 + 112 := by
    rw [angleF32_of_ne_zero hq, binary32Pack_exponent he hfrac]
  refine ⟨?_, ?_, fun _ => ⟨?_, ?_, ?_⟩⟩
  · refine iff_of_false (fun hzero => ?_) hn
    rw [hzero] at hexp
    simp at hexp
  · rw [angleF32_of_ne_zero hq, binary32Pack_sign he hfrac, decide_eq_true_iff, angleQ15_neg_iff]
  · omega
  · omega
  · rw [angleF32_of_ne_zero hq, binary32Magnitude_pack he hfrac, significand_mul_exponent hpos hlt, angleQ15]

end Sys2Proof.CodecProofs

namespace Sys2Proof.QueueProofs

open Machine Safety StateProofs MemoryProofs

/-! Submission (R130, R131): what each SUBMIT enqueues, and the two outcomes of an enqueue as updates of the state. -/

/-- A SUBMIT enqueues the frame that `submission` writes out for it (R136 to R140). -/
theorem exec_of_submission {i : Instr} {t : Tier} {f : Frame} (s : State) (h : submission i = some (t, f)) :
    exec i s = .next (enqueue Config.cfg t f s) := by
  cases i with
  | submitRaw | submitEnc | submitVel | submitAng | submitRot => cases h; rfl
  | _ => cases h

theorem setQ_append_eq_appended (t : Tier) (f : Frame) (s : State) : s.setQ t (s.q t ++ [f]) = appended t f s := by
  cases t <;> rfl

/-- The flag and the pulse of an overflow, at the bits that R29 and R40 give its tier. -/
theorem raise_queueOverflow_eq_bulkDropped (t : Tier) (f : Frame) (s : State) :
    raise (.queueOverflow t) (s.setQ t [f]) = bulkDropped t f s := by
  have hchk : (Diag.queueOverflow t == .checksumMismatch) = false := rfl
  have hdsy : (Diag.queueOverflow t == .framingDesync) = false := rfl
  simp only [raise, hchk, hdsy, Bool.or_false]
  cases t <;> rfl

theorem enqueue_of_room {c : Cfg} {t : Tier} (f : Frame) {s : State} (h : (s.q t).length < c.cap t) :
    enqueue c t f s = appended t f s :=
  (if_pos h).trans (setQ_append_eq_appended t f s)

theorem enqueue_of_full {c : Cfg} {t : Tier} (f : Frame) {s : State} (h : c.cap t ≤ (s.q t).length) :
    enqueue c t f s = bulkDropped t f s :=
  (if_neg (Nat.not_lt.mpr h)).trans (raise_queueOverflow_eq_bulkDropped t f s)

/-- The five SUBMIT operations to a tier, with the frames written out byte for byte, from what an enqueue of any
frame does there. -/
theorem submits_of_enqueue {t : Tier} {s : State} {g : Frame → State} (h : ∀ f, enqueue Config.cfg t f s = g f) :
    (∀ f : Frame, exec (.submitRaw t f) s = .next (g f)) ∧
    (∀ (c : Byte) (p : Payload),
      exec (.submitEnc t c p) s = .next (g (commandBytes c p[0] p[1] p[2] p[3] p[4] p[5] p[6] p[7]))) ∧
    (∀ w : BitVec 32, exec (.submitVel t w) s = .next (g (floatBytes 0x0E w))) ∧
    (∀ w : BitVec 32, exec (.submitAng t w) s = .next (g (floatBytes 0x0F w))) ∧
    (∀ m : Byte, exec (.submitRot t m) s = .next (g (rotateBytes m))) := by
  have hsub : ∀ i f, submission i = some (t, f) → exec i s = .next (g f) := fun i f hi => by
    rw [exec_of_submission s hi, h]
  exact ⟨fun _ => hsub _ _ rfl, fun _ _ => hsub _ _ rfl, fun _ => hsub _ _ rfl, fun _ => hsub _ _ rfl,
    fun _ => hsub _ _ rfl⟩

/-- Settles O8: every SUBMIT is the enqueue of its frame, and an enqueue with room appends. -/
theorem submitAppendsWhenTheTierHasRoom : Obligations.SubmitAppendsWhenTheTierHasRoom :=
  ⟨fun t s hroom => submits_of_enqueue (g := fun f => appended t f s) fun f => enqueue_of_room f hroom,
    fun _ _ f _ hroom => enqueue_of_room f hroom⟩

/-- Settles O9: every SUBMIT is the enqueue of its frame, and an enqueue at the capacity drops the tier. -/
theorem submitDropsTheTierOnOverflow : Obligations.SubmitDropsTheTierOnOverflow :=
  ⟨fun t s hfull => submits_of_enqueue (g := fun f => bulkDropped t f s) fun f => enqueue_of_full f hfull,
    fun _ _ f _ hfull => enqueue_of_full f hfull⟩

/-! A run of enqueues into one tier (R135). -/

theorem enqueueAll_concat (c : Cfg) (t : Tier) (fs : List Frame) (f : Frame) (s : State) :
    enqueueAll c t (fs ++ [f]) s = enqueue c t f (enqueueAll c t fs s) := by
  simp [enqueueAll]

theorem enqueueAll_q_other (c : Cfg) {t u : Tier} (fs : List Frame) (s : State) (h : u ≠ t) :
    (enqueueAll c t fs s).q u = s.q u := by
  induction fs using List.reverseRecOn with
  | nil => rfl
  | append_singleton fs f ih => rw [enqueueAll_concat, enqueue_q_other c f _ h, ih]

/-- Counting one more, when the current group of `m` is not complete: the remainder grows. -/
theorem succ_div_mod_of_lt {n m : Nat} (h : n % m + 1 < m) : (n + 1) / m = n / m ∧ (n + 1) % m = n % m + 1 :=
  (Nat.div_mod_unique (Nat.zero_lt_of_lt h)).mpr ⟨by have := Nat.mod_add_div n m; omega, h⟩

/-- Counting one more, when the current group of `m` is complete: the next group begins. -/
theorem succ_div_mod_of_eq {n m : Nat} (h : n % m + 1 = m) : (n + 1) / m = n / m + 1 ∧ (n + 1) % m = 0 := by
  have hm : 0 < m := h ▸ Nat.succ_pos _
  refine (Nat.div_mod_unique hm).mpr ⟨?_, hm⟩
  have hn := Nat.mod_add_div n m
  rw [Nat.mul_add]
  omega

/-- The tier and the overflows after `n + 1` enqueues into an empty tier: the frames fall into groups of the
capacity, of which the tier holds the last and each earlier one was dropped by an overflow. -/
theorem enqueueAll_from_empty {c : Cfg} {t : Tier} {s : State} (hcap : 1 ≤ c.cap t) (hempty : s.q t = [])
    {fs : List Frame} {n : Nat} (hlen : fs.length = n + 1) :
    (enqueueAll c t fs s).q t = fs.drop (n - n % c.cap t) ∧
      (enqueueAll c t fs s).diagOut = s.diagOut ++ List.replicate (n / c.cap t) (.queueOverflow t) := by
  induction n generalizing fs with
  | zero =>
    obtain ⟨f, rfl⟩ := List.length_eq_one_iff.mp hlen
    rcases enqueue_cases c t f s with ⟨_, he⟩ | ⟨hfull, _⟩
    · simp [enqueueAll, he, hempty]
    · simp [hempty] at hfull
      omega
  | succ n ih =>
    obtain rfl | ⟨gs, f, rfl⟩ := fs.eq_nil_or_concat'
    · cases hlen
    have hgs : gs.length = n + 1 := by simpa using hlen
    obtain ⟨hq, hdiag⟩ := ih hgs
    have hmod : n % c.cap t < c.cap t := Nat.mod_lt n hcap
    have hle : n % c.cap t ≤ n := Nat.mod_le n (c.cap t)
    have hqlen : ((enqueueAll c t gs s).q t).length = n % c.cap t + 1 := by
      rw [hq, List.length_drop]
      omega
    rw [enqueueAll_concat]
    rcases enqueue_cases c t f (enqueueAll c t gs s) with ⟨hroom, he⟩ | ⟨hfull, he⟩ <;> rw [he]
    · obtain ⟨hdiv, hrem⟩ := succ_div_mod_of_lt (hqlen ▸ hroom)
      rw [hdiv, hrem, Nat.add_sub_add_right, List.drop_append_of_le_length (by omega)]
      simp [hq, hdiag]
    · obtain ⟨hdiv, hrem⟩ := succ_div_mod_of_eq (show n % c.cap t + 1 = c.cap t by omega)
      rw [hdiv, hrem, Nat.sub_zero, ← hgs, List.drop_left]
      simp [hdiag, List.replicate_succ']

/-- Settles O10: the groups of `enqueueAll_from_empty`, counted from the length of the list. -/
theorem enqueuesFromEmptyLeaveTheLastRun : Obligations.EnqueuesFromEmptyLeaveTheLastRun := by
  intro c t fs s hc hempty hne
  have hlen : fs.length = fs.length - 1 + 1 := (Nat.sub_add_cancel (List.length_pos_of_ne_nil hne)).symm
  obtain ⟨hq, hdiag⟩ := enqueueAll_from_empty (hc.cap_pos t) hempty hlen
  refine ⟨?_, hdiag, fun u hu => enqueueAll_q_other c fs s hu⟩
  rw [hq, ← Nat.sub_sub, Nat.sub_right_comm]

/-! Enqueues into several tiers, and the order in which the frames leave (R132 to R134). -/

/-- The frames that a list of enqueues sends to a tier, in order. -/
def framesFor (t : Tier) (l : List (Tier × Frame)) : List Frame := (l.filter (·.1 = t)).map (·.2)

/-- Enqueues that a tier has room for leave it with their frames at its end, whatever goes to the other tiers. -/
theorem foldl_enqueue_q {c : Cfg} {t : Tier} {l : List (Tier × Frame)} {s : State}
    (h : (s.q t).length + (framesFor t l).length ≤ c.cap t) :
    (l.foldl (fun s x => enqueue c x.1 x.2 s) s).q t = s.q t ++ framesFor t l := by
  induction l generalizing s with
  | nil => simp [framesFor]
  | cons x l ih =>
    obtain ⟨u, f⟩ := x
    by_cases hu : u = t
    · subst hu
      have hfor : framesFor u ((u, f) :: l) = f :: framesFor u l := by simp [framesFor]
      rw [hfor, List.length_cons] at h
      have hq : (enqueue c u f s).q u = s.q u ++ [f] := by
        rw [enqueue_of_room f (by omega), ← setQ_append_eq_appended, setQ_q_self]
      rw [List.foldl_cons, ih (by rw [hq, List.length_append, List.length_singleton]; omega), hq, hfor,
        List.append_assoc, List.singleton_append]
    · have hfor : framesFor t ((u, f) :: l) = framesFor t l := by simp [framesFor, hu]
      have hq : (enqueue c u f s).q t = s.q t := enqueue_q_other c f s (Ne.symm hu)
      rw [hfor] at h ⊢
      rw [List.foldl_cons, ih (by rwa [hq]), hq]

theorem framesFor_perm {t : Tier} {l l' : List (Tier × Frame)} (h : l.Perm l') :
    (framesFor t l).Perm (framesFor t l') :=
  (h.filter _).map _

/-- The order of the enqueues does not show in a tier that only one of them goes to. -/
theorem foldl_enqueue_q_of_perm {c : Cfg} {t : Tier} {l l' : List (Tier × Frame)} {s : State} {f : Frame}
    (hcap : 1 ≤ c.cap t) (hempty : s.q t = []) (hperm : l.Perm l') (hfor : framesFor t l' = [f]) :
    (l.foldl (fun s x => enqueue c x.1 x.2 s) s).q t = [f] := by
  have hl : framesFor t l = [f] := List.perm_singleton.mp (hfor ▸ framesFor_perm hperm)
  rw [foldl_enqueue_q (by simpa [hempty, hl] using hcap), hempty, hl, List.nil_append]

theorem dequeueNext_of_served {s : State} {t : Tier} {f : Frame} {r : List Frame} (hv : servedTier s = some t)
    (hq : s.q t = f :: r) : dequeueNext s = (some f, s.setQ t r) := by
  rcases dequeueNext_servedTier s with ⟨hnone, _⟩ | ⟨v, g, r', hsome, hq', hd⟩
  · simp [hv] at hnone
  · obtain rfl : t = v := by simpa [hv] using hsome
    obtain ⟨rfl, rfl⟩ : f = g ∧ r = r' := by simpa [hq] using hq'
    exact hd

theorem dequeueNext_of_none_served {s : State} (hv : servedTier s = none) : dequeueNext s = (none, s) := by
  rcases dequeueNext_servedTier s with ⟨_, hd⟩ | ⟨v, _, _, hsome, _, _⟩
  · exact hd
  · simp [hv] at hsome

/-- One frame in each tier leaves in the order of the tiers. -/
theorem dequeueNext_one_per_tier {s : State} {a b d : Frame} (hh : s.q .high = [a]) (hm : s.q .mid = [b])
    (hl : s.q .low = [d]) : ∃ s1 s2 s3, dequeueNext s = (some a, s1) ∧ dequeueNext s1 = (some b, s2) ∧
      dequeueNext s2 = (some d, s3) ∧ dequeueNext s3 = (none, s3) := by
  change s.qHigh = [a] at hh
  change s.qMid = [b] at hm
  change s.qLow = [d] at hl
  refine ⟨s.setQ .high [], (s.setQ .high []).setQ .mid [], ((s.setQ .high []).setQ .mid []).setQ .low [],
    dequeueNext_of_served ?_ hh, dequeueNext_of_served ?_ hm, dequeueNext_of_served ?_ hl,
    dequeueNext_of_none_served ?_⟩ <;>
  simp [servedTier, State.setQ, hh, hm, hl]

/-- Settles O11: whatever the order of the enqueues, each tier then holds its one frame. -/
theorem dequeueOrderIsHighMidLow : Obligations.DequeueOrderIsHighMidLow := by
  intro c s a b d order hc hempty hperm
  have hone : ∀ t f, framesFor t [(.high, a), (.mid, b), (.low, d)] = [f] →
      (order.foldl (fun s x => enqueue c x.1 x.2 s) s).q t = [f] :=
    fun t f hfor => foldl_enqueue_q_of_perm (hc.cap_pos t) (hempty t) hperm hfor
  exact dequeueNext_one_per_tier (hone .high a rfl) (hone .mid b rfl) (hone .low d rfl)

end Sys2Proof.QueueProofs

namespace Sys2Proof.SchedulerProofs

open Machine Safety StateProofs MemoryProofs QueueProofs
open Host (Outcome)

/-! The tick timer (R150, R151). -/

theorem exec_clk_of_zero {s : State} (h : s.tickCnt = 0) :
    exec .clk s = .next { s with tickCnt := Config.tickDiv - 1, tickPend := true } :=
  congrArg Outcome.next (if_pos h)

theorem exec_clk_of_succ {s : State} {n : Nat} (h : s.tickCnt = n + 1) :
    exec .clk s = .next { s with tickCnt := n } := by
  rcases clockTimer_cases Config.cfg s with ⟨h0, _⟩ | ⟨_, he⟩
  · omega
  · exact congrArg Outcome.next (by rw [he, h, Nat.add_sub_cancel])

/-- A run in two parts. -/
theorem runOps_append_of_next {ops : List Instr} (rest : List Instr) {s t : State} (h : runOps ops s = .next t) :
    runOps (ops ++ rest) s = runOps rest t := by
  induction ops generalizing s with
  | nil => cases h; rfl
  | cons i is ih =>
    obtain ⟨s', hexec, hrun⟩ := (runOps_cons_next i is s t).mp h
    simp only [List.cons_append, runOps, hexec, ih hrun]

/-- Clocks before the expiry only count down. -/
theorem runOps_clk_of_le {n : Nat} {s : State} (h : n ≤ s.tickCnt) :
    runOps (List.replicate n .clk) s = .next { s with tickCnt := s.tickCnt - n } := by
  induction n generalizing s with
  | zero => rfl
  | succ n ih =>
    obtain ⟨m, hm⟩ := Nat.exists_eq_add_of_le' (Nat.zero_lt_of_lt h)
    refine (runOps_cons_next _ _ _ _).mpr ⟨_, exec_clk_of_succ hm, ?_⟩
    rw [ih (by simp only; omega)]
    simp only [hm, Nat.add_sub_add_right]

/-- Settles O14: TICK_DIV - 1 clocks count down to 0, and the next one expires. -/
theorem tickFiresEveryTickDivClocks : Obligations.TickFiresEveryTickDivClocks := by
  intro s hfull
  have hcount : ∀ n, n < Config.tickDiv →
      runOps (List.replicate n .clk) s = .next { s with tickCnt := Config.tickDiv - 1 - n } := fun n hn => by
    rw [runOps_clk_of_le (by omega), hfull]
  refine ⟨hcount, ?_, fun u hu => exec_clk_of_zero hu, fun u n hu => exec_clk_of_succ hu⟩
  have hdiv : Config.tickDiv = Config.tickDiv - 1 + 1 := rfl
  have hdown := hcount (Config.tickDiv - 1) (by omega)
  rw [Nat.sub_self] at hdown
  rw [hdiv, List.replicate_succ', runOps_append_of_next _ hdown]
  refine (runOps_cons_next _ _ _ _).mpr ⟨_, exec_clk_of_zero rfl, ?_⟩
  rw [← hfull]
  rfl

/-- Settles O15: TICK stores 1 whatever was pending. -/
theorem tickSetsPendingOnce : Obligations.TickSetsPendingOnce := fun _ => ⟨rfl, rfl⟩

/-! The scheduler's service (R153) and the bytes of a frame (R155). -/

theorem servedTier_of_high {s : State} {f : Frame} {r : List Frame} (h : s.qHigh = f :: r) :
    servedTier s = some .high := by
  simp [servedTier, h]

theorem servedTier_of_mid {s : State} {f : Frame} {r : List Frame} (hh : s.qHigh = []) (h : s.qMid = f :: r) :
    servedTier s = some .mid := by
  simp [servedTier, hh, h]

theorem servedTier_of_low {s : State} {f : Frame} {r : List Frame} (hh : s.qHigh = []) (hm : s.qMid = [])
    (h : s.qLow = f :: r) : servedTier s = some .low := by
  simp [servedTier, hh, hm, h]

theorem servedTier_of_empty {s : State} (hh : s.qHigh = []) (hm : s.qMid = []) (hl : s.qLow = []) :
    servedTier s = none := by
  simp [servedTier, hh, hm, hl]

/-- The service of a tick with a frame in the tier served. -/
theorem serviceTick_of_served {s : State} {t : Tier} {f : Frame} {r : List Frame} (hv : servedTier s = some t)
    (hq : s.q t = f :: r) : serviceTick s = { s.setQ t r with tickPend := false, txFrame := f, txIdx := 0 } := by
  have hd : dequeueNext { s with tickPend := false } = (some f, State.setQ { s with tickPend := false } t r) :=
    dequeueNext_of_served hv (by cases t <;> exact hq)
  unfold serviceTick
  rw [hd]
  cases t <;> rfl

/-- The service of a tick with nothing to send. -/
theorem serviceTick_of_none_served {s : State} (hv : servedTier s = none) :
    serviceTick s = { s with tickPend := false } := by
  have hd : dequeueNext { s with tickPend := false } = (none, { s with tickPend := false }) :=
    dequeueNext_of_none_served hv
  unfold serviceTick
  rw [hd]

/-- An enabled SCHED is the service of the tick. -/
theorem exec_sched_of_enabled {s : State} (hpend : s.tickPend = true) (hidle : s.txIdx = 12) :
    exec .sched s = .next (serviceTick s) :=
  if_pos (by simp [schedEnabled, hpend, hidle])

/-- Settles O17: `dequeueNext` and the service of the tick, at the tier served. -/
theorem schedLoadsTheHighestPriorityHead : Obligations.SchedLoadsTheHighestPriorityHead := by
  intro s hpend hidle
  have hserved : ∀ t f r, servedTier s = some t → s.q t = f :: r → dequeueNext s = (some f, s.setQ t r) ∧
      exec .sched s = .next { s.setQ t r with tickPend := false, txFrame := f, txIdx := 0 } := fun t f r hv hq =>
    ⟨dequeueNext_of_served hv hq, by rw [exec_sched_of_enabled hpend hidle, serviceTick_of_served hv hq]⟩
  refine ⟨fun f r h => hserved .high f r (servedTier_of_high h) h,
    fun f r hh h => hserved .mid f r (servedTier_of_mid hh h) h,
    fun f r hh hm h => hserved .low f r (servedTier_of_low hh hm h) h, fun hh hm hl => ?_⟩
  have hv := servedTier_of_empty hh hm hl
  exact ⟨dequeueNext_of_none_served hv, by rw [exec_sched_of_enabled hpend hidle, serviceTick_of_none_served hv]⟩

theorem exec_txb_of_lt {s : State} (h : s.txIdx < 12) : exec .txb s = .next (sendByte s h) := dif_pos h

theorem exec_txb_of_not_lt {s : State} (h : ¬ s.txIdx < 12) : exec .txb s = .fault .txbNotEnabled := dif_neg h

/-- Settles O18: `sendByte` is the update stated. -/
theorem txbSendsTheByteAtTxIdx : Obligations.TxbSendsTheByteAtTxIdx := fun _ h => exec_txb_of_lt h

/-- `transmitBytes_rest` for the operations TXB, with no cycle boundary between them. -/
theorem runOps_txb_rest {k : Nat} {s : State} (h : s.txIdx + k = 12) :
    runOps (List.replicate k .txb) s = .next { s with txIdx := 12, txOut := s.txOut ++ inFlight s } := by
  induction k generalizing s with
  | zero =>
    have hidle : s.txIdx = 12 := h
    have hnone : inFlight s = [] := by simp [inFlight, hidle]
    rw [hnone, List.append_nil, ← hidle]
    rfl
  | succ k ih =>
    have hlt : s.txIdx < 12 := by omega
    refine (runOps_cons_next _ _ _ _).mpr ⟨_, exec_txb_of_lt hlt, ?_⟩
    rw [ih (by rw [sendByte_txIdx]; omega), inFlight, inFlight, unsent_cons s hlt]
    simp [sendByte]

/-- TICK, SCHED and twelve TXBs send the head of the tier served. -/
theorem runOps_whole_tick {s : State} {t : Tier} {f : Frame} {r : List Frame} (hidle : s.txIdx = 12)
    (hv : servedTier s = some t) (hq : s.q t = f :: r) :
    runOps (.tick :: .sched :: List.replicate 12 .txb) s =
      .next { s.setQ t r with tickPend := false, txFrame := f, txOut := s.txOut ++ f.toList } := by
  have hload : exec .sched (fireTick s) =
      .next { s.setQ t r with tickPend := false, txFrame := f, txIdx := 0 } := by
    rw [← serviceTick_of_served hv hq]
    exact exec_sched_of_enabled rfl hidle
  refine (runOps_cons_next _ _ _ _).mpr ⟨fireTick s, rfl, (runOps_cons_next _ _ _ _).mpr ⟨_, hload, ?_⟩⟩
  rw [runOps_txb_rest rfl]
  simp [inFlight, ← hidle]

/-- Settles O19: the whole tick, at the tier served. -/
theorem wholeTickSendsOneFrame : Obligations.WholeTickSendsOneFrame := by
  intro s hidle
  refine ⟨fun f r h => runOps_whole_tick hidle (servedTier_of_high h) h,
    fun f r hh h => runOps_whole_tick hidle (servedTier_of_mid hh h) h,
    fun f r hh hm h => runOps_whole_tick hidle (servedTier_of_low hh hm h) h, fun hh hm hl => ?_⟩
  refine (runOps_cons_next _ _ _ _).mpr ⟨fireTick s, rfl, (runOps_cons_next _ _ _ _).mpr
    ⟨_, exec_sched_of_enabled rfl hidle, ?_⟩⟩
  exact congrArg Outcome.next (serviceTick_of_none_served (servedTier_of_empty hh hm hl))

/-- An outbound frame event, where CORE would send that frame. -/
theorem wireFrame_outbound {f : Frame} {s : State} (hidle : s.txIdx = 12) (hf : nextFrame s = some f) :
    wireFrame .outbound f s = .next (afterSend f s) := by
  rw [← tickSend_eq_afterSend hidle hf]
  exact if_pos ⟨hidle, hf⟩

/-- Settles O24: each row is the outbound event of the frame written out. -/
theorem outboundCommandFrameIsSentWhole : Obligations.OutboundCommandFrameIsSentWhole := fun _ hidle =>
  ⟨fun _ _ _ hf => wireFrame_outbound hidle hf, fun _ _ hf => wireFrame_outbound hidle hf,
    fun _ _ hf => wireFrame_outbound hidle hf, fun _ _ hf => wireFrame_outbound hidle hf⟩

/-! The transmitter along a run (R156, R159): what an operation loads and sends. -/

theorem loadedBy_of_serves {i : Instr} (s : State) (h : i = .sched ∨ outbound i = true) :
    loadedBy i s = (nextFrame s).toList := by
  rcases h with rfl | h
  · rfl
  · simp [loadedBy, h]

theorem loadedBy_of_submission {i : Instr} (s : State) (h : (submission i).isSome = true) : loadedBy i s = [] := by
  cases i with
  | submitRaw | submitEnc | submitVel | submitAng | submitRot => rfl
  | _ => cases h

theorem loadedBy_of_inbound {i : Instr} (s : State) (h : inbound i = true) : loadedBy i s = [] := by
  cases i with
  | cmd way | cmdVelocity way | cmdAngle way | cmdRotate way =>
    cases way with
    | inbound => rfl
    | outbound => cases h
  | tlm => rfl
  | _ => cases h

/-- The number of ticks pending, 0 or 1 (R24). -/
def pendingTicks (s : State) : Nat := if s.tickPend then 1 else 0

/-- An operation that leaves the transmitter alone, and makes a tick pending only if it fires one. -/
structure LeavesTransmitter (i : Instr) (s t : State) : Prop where
  loads_nothing : loadedBy i s = []
  pending_le : pendingTicks t ≤ firedBy i s + pendingTicks s
  txFrame : t.txFrame = s.txFrame
  txIdx : t.txIdx = s.txIdx
  txOut : t.txOut = s.txOut

theorem LeavesTransmitter.of_same_tick {i : Instr} {s t : State} (hload : loadedBy i s = [])
    (hpend : t.tickPend = s.tickPend) (hframe : t.txFrame = s.txFrame) (hidx : t.txIdx = s.txIdx)
    (htrace : t.txOut = s.txOut) : LeavesTransmitter i s t where
  loads_nothing := hload
  pending_le := by rw [pendingTicks, hpend]; exact Nat.le_add_left _ _
  txFrame := hframe
  txIdx := hidx
  txOut := htrace

theorem leavesTransmitter_enqueue {i : Instr} (c : Cfg) (u : Tier) (f : Frame) (s : State)
    (hload : loadedBy i s = []) : LeavesTransmitter i s (enqueue c u f s) := by
  rcases enqueue_cases c u f s with ⟨_, he⟩ | ⟨_, he⟩ <;> rw [he] <;>
    exact .of_same_tick hload (setQ_tickPend ..) (setQ_txFrame ..) (setQ_txIdx ..) (setQ_txOut ..)

theorem leavesTransmitter_clk (s : State) : LeavesTransmitter .clk s (clockTimer Config.cfg s) := by
  rcases clockTimer_cases Config.cfg s with ⟨h0, he⟩ | ⟨_, he⟩ <;> rw [he]
  · have hfired : firedBy .clk s = 1 := by simp [firedBy, h0]
    exact ⟨rfl, by rw [hfired]; exact Nat.le_add_right 1 _, rfl, rfl, rfl⟩
  · exact .of_same_tick rfl rfl rfl rfl rfl

theorem leavesTransmitter_of_sameOutsideRx {i : Instr} {s t : State} (hload : loadedBy i s = [])
    (h : SameOutsideRx s t) : LeavesTransmitter i s t :=
  .of_same_tick hload h.tickPend h.txFrame h.txIdx h.txOut

/-- What an operation that goes on can do to the transmitter: RESET, a byte sent, a frame loaded while idle, a frame
sent whole while idle, or nothing. -/
theorem exec_next_transmitter {i : Instr} {s t : State} (h : exec i s = .next t) :
    (i = .reset ∧ t = resetAll Config.cfg s) ∨ (i = .txb ∧ ∃ hlt : s.txIdx < 12, t = sendByte s hlt) ∨
    (i = .sched ∧ s.tickPend = true ∧ s.txIdx = 12 ∧ t = serviceTick s) ∨
    (outbound i = true ∧ ∃ f, s.txIdx = 12 ∧ nextFrame s = some f ∧ t = afterSend f s) ∨
    LeavesTransmitter i s t := by
  rcases exec_next_cases i s t h with ⟨u, f, hi, rfl⟩ | hreset | ⟨m, rfl, rfl⟩ | ⟨b, rfl, rfl⟩ | ⟨rfl, rfl⟩ |
    hsend | ⟨rfl, rfl⟩ | ⟨rfl, rfl⟩ | hload | ⟨hi, f, rfl⟩ | ⟨hi, f, hidle, hf, rfl⟩
  · have hload := loadedBy_of_submission s (Option.isSome_of_eq_some hi)
    exact .inr (.inr (.inr (.inr (leavesTransmitter_enqueue _ u f s hload))))
  · exact .inl hreset
  · exact .inr (.inr (.inr (.inr (.of_same_tick rfl rfl rfl rfl rfl))))
  · exact .inr (.inr (.inr (.inr (leavesTransmitter_of_sameOutsideRx rfl (receiveByte_frame b s)))))
  · exact .inr (.inr (.inr (.inr (.of_same_tick rfl rfl rfl rfl rfl))))
  · exact .inr (.inl hsend)
  · exact .inr (.inr (.inr (.inr (leavesTransmitter_clk s))))
  · exact .inr (.inr (.inr (.inr ⟨rfl, Nat.le_add_right 1 _, rfl, rfl, rfl⟩)))
  · exact .inr (.inr (.inl hload))
  · have hload := loadedBy_of_inbound s hi
    exact .inr (.inr (.inr (.inr (leavesTransmitter_of_sameOutsideRx hload (receiveBytes_frame f.toList s)))))
  · exact .inr (.inr (.inr (.inl ⟨hi, f, hidle, hf, tickSend_eq_afterSend hidle hf⟩)))

/-- Settles O20: a frame is loaded only while the transmitter is idle. -/
theorem frameInFlightIsNotDisturbed : Obligations.FrameInFlightIsNotDisturbed := by
  intro i s t hlt hreset htxb h
  rcases exec_next_transmitter h with ⟨hi, _⟩ | ⟨hi, _⟩ | ⟨_, _, hidle, _⟩ | ⟨_, _, hidle, _⟩ | hsame
  · exact absurd hi hreset
  · exact absurd hi htxb
  · exact absurd hidle hlt.ne
  · exact absurd hidle hlt.ne
  · exact ⟨hsame.txFrame, hsame.txIdx⟩

/-- The bytes sent and those still to be sent of the frame in flight. -/
def committedBytes (s : State) : List Byte := s.txOut ++ inFlight s

theorem inFlight_of_idle {s : State} (h : s.txIdx = 12) : inFlight s = [] := by simp [inFlight, h]

/-- A byte sent moves from the frame in flight to the trace. -/
theorem committedBytes_sendByte {s : State} (h : s.txIdx < 12) : committedBytes (sendByte s h) = committedBytes s := by
  simp [committedBytes, inFlight, unsent_cons s h]

/-- The service of a tick puts the frame to be served behind the bytes sent. -/
theorem committedBytes_serviceTick {s : State} (hidle : s.txIdx = 12) :
    committedBytes (serviceTick s) = committedBytes s ++ (nextFrame s).toList.flatMap (fun f => f.toList) := by
  unfold nextFrame committedBytes
  rw [inFlight_of_idle hidle]
  rcases dequeueNext_servedTier s with ⟨hv, hd⟩ | ⟨v, f, r, hv, hq, hd⟩ <;> rw [hd]
  · rw [serviceTick_of_none_served hv]
    simp [inFlight, hidle]
  · rw [serviceTick_of_served hv hq]
    simp [inFlight]

/-- A whole tick sends the frame to be served. -/
theorem committedBytes_afterSend (f : Frame) {s : State} (hidle : s.txIdx = 12) :
    committedBytes (afterSend f s) = committedBytes s ++ f.toList := by
  rw [committedBytes, committedBytes, inFlight_of_idle hidle, inFlight_of_idle (s := afterSend f s) hidle]
  simp [afterSend]

/-- One operation puts the frames it loads behind the bytes sent and in flight. -/
theorem committedBytes_exec {i : Instr} {s t : State} (hi : i ≠ .reset) (h : exec i s = .next t) :
    committedBytes t = committedBytes s ++ (loadedBy i s).flatMap (fun f => f.toList) := by
  rcases exec_next_transmitter h with ⟨hreset, _⟩ | ⟨rfl, hlt, rfl⟩ | ⟨rfl, _, hidle, rfl⟩ |
    ⟨hout, f, hidle, hf, rfl⟩ | hsame
  · exact absurd hreset hi
  · have hload : loadedBy .txb s = [] := rfl
    simp [committedBytes_sendByte, hload]
  · rw [committedBytes_serviceTick hidle, loadedBy_of_serves s (.inl rfl)]
  · rw [committedBytes_afterSend f hidle, loadedBy_of_serves s (.inr hout), hf]
    simp
  · simp [committedBytes, inFlight, hsame.loads_nothing, hsame.txFrame, hsame.txIdx, hsame.txOut]

/-- Settles O21, by induction on the run, an operation at a time. -/
theorem transmittedBytesAreLoadedFrames : Obligations.TransmittedBytesAreLoadedFrames := by
  intro ops
  induction ops with
  | nil =>
    intro s t _ h
    cases h
    simp [history]
  | cons i is ih =>
    intro s t hreset h
    obtain ⟨hi, his⟩ := List.ne_and_not_mem_of_not_mem_cons hreset
    obtain ⟨s', hexec, hrun⟩ := (runOps_cons_next i is s t).mp h
    calc committedBytes t
        = committedBytes s' ++ (history loadedBy is s').flatMap (fun f => f.toList) := ih s' t his hrun
      _ = committedBytes s ++ (history loadedBy (i :: is) s).flatMap (fun f => f.toList) := by
        rw [committedBytes_exec (Ne.symm hi) hexec]
        simp [history, hexec]

/-! Ticks and loads along a run (R154, R161). -/

theorem pendingTicks_of_true {s : State} (h : s.tickPend = true) : pendingTicks s = 1 := if_pos h

theorem pendingTicks_of_false {s : State} (h : s.tickPend = false) : pendingTicks s = 0 := by simp [pendingTicks, h]

theorem serviceTick_tickPend (s : State) : (serviceTick s).tickPend = false := by
  rcases serviceTick_cases s with ⟨_, _, he⟩ | ⟨_, _, _, _, _, he⟩ <;> rw [he]

/-- One operation: a load takes away a tick that was pending or fired with it. -/
theorem loads_le_ticks_exec {i : Instr} {s t : State} (h : exec i s = .next t) :
    (loadedBy i s).length + pendingTicks t ≤ firedBy i s + pendingTicks s := by
  rcases exec_next_transmitter h with ⟨rfl, rfl⟩ | ⟨rfl, hlt, rfl⟩ | ⟨rfl, hpend, _, rfl⟩ | ⟨hout, f, _, hf, rfl⟩ |
    hsame
  · exact Nat.zero_le _
  · exact Nat.le_refl _
  · have hone : (nextFrame s).toList.length ≤ 1 := by cases nextFrame s <;> simp
    rw [loadedBy_of_serves s (.inl rfl), pendingTicks_of_true hpend, pendingTicks_of_false (serviceTick_tickPend s)]
    exact hone.trans (Nat.le_add_left _ _)
  · have hfired : firedBy i s = 1 := by simp [firedBy, hout]
    rw [loadedBy_of_serves s (.inr hout), hf, hfired, pendingTicks_of_false (s := afterSend f s) rfl]
    exact Nat.le_add_right 1 _
  · rw [hsame.loads_nothing, List.length_nil, Nat.zero_add]
    exact hsame.pending_le

/-- Settles O23, by induction on the run, an operation at a time. -/
theorem framesLoadedAreBoundedByTicks : Obligations.FramesLoadedAreBoundedByTicks := by
  intro ops
  induction ops with
  | nil =>
    intro s t h
    cases h
    exact Nat.le_refl _
  | cons i is ih =>
    intro s t h
    obtain ⟨s', hexec, hrun⟩ := (runOps_cons_next i is s t).mp h
    have hfirst := loads_le_ticks_exec hexec
    have hrest : (history loadedBy is s').length + pendingTicks t ≤ fired is s' + pendingTicks s' := ih s' t hrun
    change (history loadedBy (i :: is) s).length + pendingTicks t ≤ fired (i :: is) s + pendingTicks s
    simp only [history, fired, hexec, List.length_append]
    omega

/-! The timed and the untimed view (R151): no operation but CLK reads `tick_cnt`. -/

/-- A state with another count of the tick timer. -/
def withTickCnt (n : Nat) (s : State) : State := { s with tickCnt := n }

/-- The second state is the first but for the count of the tick timer. -/
def SameButTimer (s s' : State) : Prop := ∃ n, s' = withTickCnt n s

@[simp] theorem withTickCnt_q (n : Nat) (s : State) (t : Tier) : (withTickCnt n s).q t = s.q t := by cases t <;> rfl

@[simp] theorem withTickCnt_txIdx (n : Nat) (s : State) : (withTickCnt n s).txIdx = s.txIdx := rfl

theorem enqueue_withTickCnt (c : Cfg) (t : Tier) (f : Frame) (n : Nat) (s : State) :
    enqueue c t f (withTickCnt n s) = withTickCnt n (enqueue c t f s) := by
  unfold enqueue
  rw [withTickCnt_q]
  split <;> cases t <;> rfl

theorem serviceTick_withTickCnt (n : Nat) (s : State) :
    serviceTick (withTickCnt n s) = withTickCnt n (serviceTick s) := by
  rcases s with ⟨_ | ⟨f, r⟩, _ | ⟨g, m⟩, _ | ⟨k, l⟩⟩ <;> rfl

/-- The timer is on the transmit side, on which RXB does not work. -/
theorem receiveByte_withTickCnt (b : Byte) (n : Nat) (s : State) :
    receiveByte b (withTickCnt n s) = withTickCnt n (receiveByte b s) := by
  have hr : receiveByte b s = joinSides (receiveByte b s) s := receiveByte_joinSides b s s
  rw [hr]
  exact receiveByte_joinSides b s (withTickCnt n s)

theorem receiveBytes_withTickCnt (bs : List Byte) (n : Nat) (s : State) :
    receiveBytes bs (withTickCnt n s) = withTickCnt n (receiveBytes bs s) := by
  induction bs generalizing s with
  | nil => rfl
  | cons b bs ih =>
    rw [receiveBytes_cons, receiveBytes_cons, ← ih, ← receiveByte_withTickCnt]
    rfl

theorem wireFrame_sameButTimer (way : Way) (f : Frame) (n : Nat) (s : State) :
    OutcomesRelated SameButTimer (wireFrame way f s) (wireFrame way f (withTickCnt n s)) := by
  cases way with
  | inbound => exact ⟨n, receiveBytes_withTickCnt f.toList n s⟩
  | outbound =>
    have hnext : nextFrame (withTickCnt n s) = nextFrame s := nextFrame_congr (withTickCnt_q n s)
    simp only [wireFrame, hnext, withTickCnt_txIdx]
    split
    case isTrue hsend =>
      obtain ⟨hidle, hf⟩ := hsend
      rw [tickSend_eq_afterSend hidle hf, tickSend_eq_afterSend (s := withTickCnt n s) hidle (hnext.trans hf)]
      exact ⟨n, rfl⟩
    case isFalse => rfl

/-- No operation but CLK reads the timer's count. -/
theorem exec_sameButTimer {i : Instr} (hi : i ≠ .clk) {s s' : State} (h : SameButTimer s s') :
    OutcomesRelated SameButTimer (exec i s) (exec i s') := by
  obtain ⟨n, rfl⟩ := h
  cases i with
  | submitRaw t f => exact ⟨n, enqueue_withTickCnt _ t f n s⟩
  | submitEnc t c p => exact ⟨n, enqueue_withTickCnt _ t _ n s⟩
  | submitVel t w => exact ⟨n, enqueue_withTickCnt _ t _ n s⟩
  | submitAng t w => exact ⟨n, enqueue_withTickCnt _ t _ n s⟩
  | submitRot t m => exact ⟨n, enqueue_withTickCnt _ t _ n s⟩
  | reset => exact ⟨(resetAll Config.cfg s).tickCnt, rfl⟩
  | clrerr | rxe | tick => exact ⟨n, rfl⟩
  | rxb b => exact ⟨n, receiveByte_withTickCnt b n s⟩
  | txb =>
    by_cases hlt : s.txIdx < 12
    · rw [exec_txb_of_lt hlt, exec_txb_of_lt (s := withTickCnt n s) hlt]
      exact ⟨n, rfl⟩
    · rw [exec_txb_of_not_lt hlt, exec_txb_of_not_lt (s := withTickCnt n s) hlt]
      rfl
  | clk => exact absurd rfl hi
  | sched =>
    have hen : schedEnabled (withTickCnt n s) = schedEnabled s := rfl
    simp only [exec, execSched, schedule, hen]
    split
    · exact ⟨n, serviceTick_withTickCnt n s⟩
    · rfl
  | cmd way c cs p => exact wireFrame_sameButTimer way _ n s
  | cmdVelocity way cs w => exact wireFrame_sameButTimer way _ n s
  | cmdAngle way cs w => exact wireFrame_sameButTimer way _ n s
  | cmdRotate way cs m => exact wireFrame_sameButTimer way _ n s
  | tlm cls cs u4 u5 u6 u7 a u10 u11 => exact wireFrame_sameButTimer .inbound _ n s

/-- The untimed form of one operation: TICK for an expiring CLK, nothing for another CLK (R151). -/
def untimedOne (i : Instr) (s : State) : List Instr :=
  if i = .clk then (if s.tickCnt = 0 then [.tick] else []) else [i]

theorem untimed_cons {i : Instr} (is : List Instr) {s t : State} (h : exec i s = .next t) :
    untimed (i :: is) s = untimedOne i s ++ untimed is t := by
  simp only [untimed, untimedOne, h]
  split_ifs <;> rfl

theorem clk_notMem_untimedOne (i : Instr) (s : State) : Instr.clk ∉ untimedOne i s := by
  unfold untimedOne
  split_ifs with hi
  · simp
  · simp
  · simpa using Ne.symm hi

/-- One operation and its untimed form, from states that agree but for the timer's count. -/
theorem runOps_untimedOne {i : Instr} {s s' t : State} (h : exec i s = .next t) (hs : SameButTimer s s') :
    ∃ t', runOps (untimedOne i s) s' = .next t' ∧ SameButTimer t t' := by
  by_cases hi : i = .clk
  · obtain ⟨n, rfl⟩ := hs
    subst hi
    cases h
    rcases clockTimer_cases Config.cfg s with ⟨h0, he⟩ | ⟨hpos, he⟩ <;> rw [he]
    · have hone : untimedOne .clk s = [.tick] := by simp [untimedOne, h0]
      exact ⟨fireTick (withTickCnt n s), by rw [hone]; rfl, n, rfl⟩
    · have hone : untimedOne .clk s = [] := by simp [untimedOne, hpos.ne']
      exact ⟨withTickCnt n s, by rw [hone]; rfl, n, rfl⟩
  · obtain ⟨t', ht', hrel⟩ := (exec_sameButTimer hi hs).next_right h
    have hone : untimedOne i s = [i] := if_neg hi
    exact ⟨t', by rw [hone]; exact (runOps_cons_next i [] s' t').mpr ⟨t', ht', rfl⟩, hrel⟩

/-- A run and its untimed form, from states that agree but for the timer's count. -/
theorem runOps_untimed {ops : List Instr} {s s' t : State} (h : runOps ops s = .next t) (hs : SameButTimer s s') :
    Instr.clk ∉ untimed ops s ∧ ∃ t', runOps (untimed ops s) s' = .next t' ∧ SameButTimer t t' := by
  induction ops generalizing s s' with
  | nil =>
    cases h
    exact ⟨List.not_mem_nil, s', rfl, hs⟩
  | cons i is ih =>
    obtain ⟨s₁, hexec, hrun⟩ := (runOps_cons_next i is s t).mp h
    obtain ⟨s₁', hone, hs₁⟩ := runOps_untimedOne hexec hs
    obtain ⟨hclk, t', hrest, ht⟩ := ih hrun hs₁
    rw [untimed_cons is hexec]
    refine ⟨?_, t', (runOps_append_of_next _ hone).trans hrest, ht⟩
    rw [List.mem_append, not_or]
    exact ⟨clk_notMem_untimedOne i s, hclk⟩

/-- Settles O16: the simulation of `runOps_untimed`, both runs from the same state. -/
theorem timedRunIsAnUntimedRun : Obligations.TimedRunIsAnUntimedRun := by
  intro ops s t h
  obtain ⟨hclk, u, hu, n, rfl⟩ := runOps_untimed (s' := s) h ⟨s.tickCnt, rfl⟩
  exact ⟨hclk, _, hu, rfl⟩

end Sys2Proof.SchedulerProofs

namespace Sys2Proof.ReceiverProofs

open Machine CodecProofs SchedulerProofs

/-! RXB, one equation for each branch of R170 under the condition that selects it. -/

theorem receiveByte_idle_sync {s : State} (hidle : s.rxState = .idle) :
    receiveByte Config.sync s = { s with rxState := .syncing, rxBuf := [Config.sync] } := by
  simp [receiveByte, hidle]

theorem receiveByte_idle_other {b : Byte} {s : State} (hidle : s.rxState = .idle) (hb : b ≠ Config.sync) :
    receiveByte b s = s := by
  rw [receiveByte, hidle]
  exact if_neg hb

/-- The marker check is the only test before the twelfth byte (R172, R173). -/
theorem receiveByte_append {b : Byte} {s : State} (hst : s.rxState = .syncing)
    (hmark : s.rxBuf.length = 2 → b = Config.rxMark) (hlen : s.rxBuf.length ≠ 11) :
    receiveByte b s = { s with rxBuf := s.rxBuf ++ [b] } := by
  rcases receiveByte_cases b s with ⟨hidle, _⟩ | ⟨hidle, _⟩ | ⟨_, h2, hb, _⟩ | ⟨_, h12, _⟩ | ⟨_, _, _, he⟩
  · simp [hst] at hidle
  · simp [hst] at hidle
  · exact absurd (hmark h2) hb
  · simp only [List.length_append, List.length_singleton] at h12
    omega
  · exact he

theorem receiveByte_wrong_marker {b : Byte} {s : State} (hst : s.rxState = .syncing) (hlen : s.rxBuf.length = 2)
    (hb : b ≠ Config.rxMark) : receiveByte b s = raise .framingDesync (rxToIdle s) := by
  rw [receiveByte, hst]
  exact if_pos ⟨by simp [hlen], by simpa [hlen] using hb⟩

theorem ofList_toList (f : Frame) (h : f.toList.length = 12) : Frame.ofList f.toList h = f := by
  cases f
  simp [Frame.ofList]

/-- The twelfth byte completes the frame, and its verdict is that of the decoder (R174). -/
theorem receiveByte_twelfth {f : Frame} {s : State} (hst : s.rxState = .syncing) (hbuf : s.rxBuf = f.toList.take 11) :
    receiveByte f[11] s = rxToIdle (rxVerdict (frameDecode f) s) := by
  have hall : s.rxBuf ++ [f[11]] = f.toList := by rw [hbuf, frame_toList]; rfl
  simp [receiveByte, hst, hall, ofList_toList]

/-! The errors of the synchronizer as updates of the state (R173, R174, R201), and the verdict on a frame with the
right header. -/

theorem raise_framingDesync (s : State) :
    raise .framingDesync s =
      { s with errFlags := s.errFlags ||| 0x02, diagOut := s.diagOut ++ [.framingDesync], diagDsy := true } := by
  simp [raise, setFlag, flagBit, BitVec.twoPow]

theorem raise_checksumMismatch (s : State) :
    raise .checksumMismatch s =
      { s with errFlags := s.errFlags ||| 0x01, diagOut := s.diagOut ++ [.checksumMismatch], diagChk := true } := by
  simp [raise, setFlag, flagBit, BitVec.twoPow]

theorem rxToIdle_of_idle {s : State} (hidle : s.rxState = .idle) (hbuf : s.rxBuf = []) : rxToIdle s = s := by
  rw [rxToIdle, ← hidle, ← hbuf]

/-- The verdict on a frame with the right sync byte and marker is the checksum's. -/
theorem rxVerdict_of_header {f : Frame} (hsync : f[0] = Config.sync) (hmark : f[2] = Config.rxMark) (s : State) :
    rxVerdict (frameDecode f) s =
      if csum f = f[3] then deliverTlm (s16 f[8] f[9]) s else raise .checksumMismatch s := by
  simp only [frameDecode_of_header hsync hmark, csumOk_iff]
  split <;> rfl

/-- The verdict on the bytes of a telemetry frame, its checksum written out (R105, R113). -/
theorem rxVerdict_telemetry (b1 b3 b4 b5 b6 b7 b8 b9 b10 b11 : Byte) (s : State) :
    rxVerdict (frameDecode #v[Config.sync, b1, Config.rxMark, b3, b4, b5, b6, b7, b8, b9, b10, b11]) s =
      if 0x99 + b1 + 0x01 + b4 + b5 + b6 + b7 + b8 + b9 + b10 + b11 = b3 then deliverTlm (s16 b8 b9) s
      else raise .checksumMismatch s :=
  rxVerdict_of_header (f := #v[Config.sync, b1, Config.rxMark, b3, b4, b5, b6, b7, b8, b9, b10, b11]) rfl rfl s

/-- Settles O25: the two branches of R171. -/
theorem idleReceiverHuntsForSync : Obligations.IdleReceiverHuntsForSync := by
  refine fun b s hidle => ⟨?_, fun hb => congrArg _ (receiveByte_idle_other hidle hb)⟩
  rintro rfl
  exact congrArg _ (receiveByte_idle_sync hidle)

/-- Settles O26: at these lengths neither the marker nor the end of the frame is due. -/
theorem syncingReceiverAppendsAnyByte : Obligations.SyncingReceiverAppendsAnyByte := fun _ _ hst hlen =>
  congrArg _ (receiveByte_append hst (fun h2 => by omega) (by omega))

/-- Settles O27: the marker is appended as any other byte is, and a wrong one raises FramingDesync from Idle. -/
theorem wrongMarkerAbortsTheFrame : Obligations.WrongMarkerAbortsTheFrame := by
  refine fun b s hst hlen => ⟨fun hb => ?_, fun hb => ?_⟩
  · exact congrArg _ (receiveByte_append hst (fun _ => hb) (by omega))
  · refine congrArg _ ((receiveByte_wrong_marker hst hlen hb).trans ?_)
    rw [raise_framingDesync]
    rfl

/-- Settles O28: the eleven bytes and the twelfth are a frame with the right header, on which the checksum decides. -/
theorem twelfthByteDeliversOrDiscards : Obligations.TwelfthByteDeliversOrDiscards := by
  intro b1 b3 b4 b5 b6 b7 b8 b9 b10 b11 s hst hbuf
  have hlast :=
    (receiveByte_twelfth (f := #v[Config.sync, b1, Config.rxMark, b3, b4, b5, b6, b7, b8, b9, b10, b11]) hst hbuf).trans
      (congrArg rxToIdle (rxVerdict_telemetry b1 b3 b4 b5 b6 b7 b8 b9 b10 b11 s))
  refine ⟨fun hcs => congrArg _ (hlast.trans ?_), fun hcs => congrArg _ (hlast.trans ?_)⟩
  · rw [if_pos hcs]
    rfl
  · rw [if_neg hcs, raise_checksumMismatch]
    rfl

/-- Settles O29: RXE is the identity, whatever the receiver's state. -/
theorem emptyReadChangesNothing : Obligations.EmptyReadChangesNothing := fun _ => rfl

/-! A whole frame with the right header, received from Idle. The bytes come one RXB each, with or without a cycle
boundary between them; `g` is what happens before each byte: nothing in a run of operations, the pulses low in a frame
event. -/

/-- Bytes received one after the other, `g` before each. -/
def receiveAfter (g : State → State) (bs : List Byte) (s : State) : State :=
  bs.foldl (fun t b => receiveByte b (g t)) s

theorem receiveBytes_eq_receiveAfter (bs : List Byte) (s : State) :
    receiveBytes bs s = receiveAfter pulsesLow bs s := rfl

theorem runOps_rxb_eq_receiveAfter (bs : List Byte) (s : State) :
    runOps (bs.map .rxb) s = .next (receiveAfter id bs s) := by
  induction bs generalizing s with
  | nil => rfl
  | cons b bs ih => exact ih (receiveByte b s)

/-- The state with the first `k` bytes of `f` buffered. -/
def midFrame (f : Frame) (k : Nat) (s : State) : State :=
  { s with rxState := .syncing, rxBuf := f.toList.take k }

section WholeFrame

variable {f : Frame} {s : State}

theorem receiveByte_first (hidle : s.rxState = .idle) (hsync : f[0] = Config.sync) :
    receiveByte f[0] s = midFrame f 1 s := by
  rw [hsync, receiveByte_idle_sync hidle, midFrame, frame_toList, hsync]
  rfl

theorem receiveByte_midFrame (hmark : f[2] = Config.rxMark) {k : Nat} (hk : k < 11) :
    receiveByte f[k] (midFrame f k s) = midFrame f (k + 1) s := by
  have hlen : (midFrame f k s).rxBuf.length = k := by simp [midFrame]; omega
  have hbuf : (midFrame f k s).rxBuf ++ [f[k]] = f.toList.take (k + 1) :=
    List.take_append_getElem (by simp; omega)
  rw [receiveByte_append rfl (fun h2 => by rw [hlen] at h2; subst h2; exact hmark) (by omega), hbuf]
  rfl

theorem receiveAfter_drop (g : State → State) (f : Frame) (s : State) {k : Nat} (hk : k < 12) :
    receiveAfter g (f.toList.drop k) s = receiveAfter g (f.toList.drop (k + 1)) (receiveByte f[k] (g s)) := by
  rw [List.drop_eq_getElem_cons (by simpa using hk), Vector.getElem_toList]
  rfl

/-- The rest of a frame completes it: no byte before the twelfth is judged but the marker. -/
theorem receiveAfter_rest {g : State → State} (hg : ∀ k, g (midFrame f k s) = midFrame f k s)
    (hmark : f[2] = Config.rxMark) {n k : Nat} (hk : k + n = 11) :
    receiveAfter g (f.toList.drop k) (midFrame f k s) = rxToIdle (rxVerdict (frameDecode f) (midFrame f 11 s)) := by
  induction n generalizing k with
  | zero =>
    obtain rfl : k = 11 := hk
    rw [receiveAfter_drop g f _ (by omega), hg, receiveByte_twelfth rfl rfl, List.drop_of_length_le (by simp)]
    rfl
  | succ n ih =>
    rw [receiveAfter_drop g f _ (by omega), hg, receiveByte_midFrame hmark (by omega)]
    exact ih (by omega)

theorem rxToIdle_rxVerdict (r : Except FrameError (BitVec 16)) (s : State) :
    rxToIdle (rxVerdict r s) = rxVerdict r (rxToIdle s) := by
  cases r <;> rfl

/-- A frame with the right header, received from Idle, leaves its verdict and the receiver as it was. -/
theorem receiveAfter_frame {g : State → State} (hg : ∀ k, g (midFrame f k (g s)) = midFrame f k (g s))
    (hidle : (g s).rxState = .idle) (hbuf : (g s).rxBuf = []) (hsync : f[0] = Config.sync)
    (hmark : f[2] = Config.rxMark) :
    receiveAfter g f.toList s = rxVerdict (frameDecode f) (g s) := by
  calc receiveAfter g f.toList s
      = receiveAfter g (f.toList.drop 1) (receiveByte f[0] (g s)) := receiveAfter_drop g f s (k := 0) (by omega)
    _ = receiveAfter g (f.toList.drop 1) (midFrame f 1 (g s)) := by rw [receiveByte_first hidle hsync]
    _ = rxToIdle (rxVerdict (frameDecode f) (midFrame f 11 (g s))) := receiveAfter_rest hg hmark (n := 10) rfl
    _ = rxVerdict (frameDecode f) (rxToIdle (g s)) := rxToIdle_rxVerdict _ _
    _ = rxVerdict (frameDecode f) (g s) := by rw [rxToIdle_of_idle hidle hbuf]

end WholeFrame

/-- Bytes without a sync byte are lost in Idle (R171, R181). -/
theorem runOps_rxb_garbage {ps : List Byte} {s : State} (hidle : s.rxState = .idle) (hps : Config.sync ∉ ps) :
    runOps (ps.map .rxb) s = .next s := by
  induction ps with
  | nil => rfl
  | cons b bs ih =>
    obtain ⟨hb, hbs⟩ := List.ne_and_not_mem_of_not_mem_cons hps
    exact (runOps_cons_next _ _ _ _).mpr ⟨s, congrArg _ (receiveByte_idle_other hidle hb.symm), ih hbs⟩

/-- Settles O30: the garbage leaves the start state, from which the frame is received whole. -/
theorem resynchronizesAfterGarbageWithoutSync : Obligations.ResynchronizesAfterGarbageWithoutSync := by
  intro ps f s hidle hbuf hps hsync hmark hcs
  have hframe : receiveAfter id f.toList s = deliverTlm (s16 f[8] f[9]) s := by
    rw [receiveAfter_frame (fun _ => rfl) hidle hbuf hsync hmark, rxVerdict_of_header hsync hmark, if_pos hcs]
    rfl
  rw [List.map_append, runOps_append_of_next _ (runOps_rxb_garbage hidle hps), runOps_rxb_eq_receiveAfter, hframe]
  rfl

/-- Settles O32: the row's frame has the right header, so its checksum decides, and the pulses are its last byte's. -/
theorem telemetryFrameArrives : Obligations.TelemetryFrameArrives := by
  intro cls cs u4 u5 u6 u7 angle u10 u11 s hidle hbuf
  have hframe :=
    calc receiveBytes (tlmFrame cls cs u4 u5 u6 u7 angle u10 u11).toList s
        = receiveAfter pulsesLow (tlmFrame cls cs u4 u5 u6 u7 angle u10 u11).toList s :=
          receiveBytes_eq_receiveAfter _ s
      _ = rxVerdict (frameDecode (tlmFrame cls cs u4 u5 u6 u7 angle u10 u11)) (pulsesLow s) :=
          receiveAfter_frame (fun _ => rfl) hidle hbuf rfl rfl
      _ = _ := rxVerdict_telemetry cls cs u4 u5 u6 u7 (lo16 angle) (hi16 angle) u10 u11 (pulsesLow s)
  rw [s16_lo16_hi16] at hframe
  refine ⟨fun hcs => congrArg _ (hframe.trans ?_), fun hcs => congrArg _ (hframe.trans ?_)⟩
  · exact if_pos hcs.symm
  · exact (if_neg hcs.symm).trans (raise_checksumMismatch (pulsesLow s))

end Sys2Proof.ReceiverProofs

namespace Sys2Proof.SystemProofs

open Machine

/-! RESET and CLRERR: each goes on from every state, and each is one update of the state. -/

theorem exec_clrerr (mask : Byte) (s : State) :
    exec (.clrerr mask) s = .next { s with errFlags := clearFlags mask s.errFlags } := rfl

theorem exec_reset (s : State) : exec .reset s = .next (resetAll Config.cfg s) := rfl

/-- Within one cycle even `tx_frame` is the same after a second RESET: the free value is read at an index that RESET
keeps (entries 8, 19). -/
theorem resetAll_resetAll (c : Cfg) (s : State) : resetAll c (resetAll c s) = resetAll c s := by
  rw [resetAll, resetAll_freeCnt]
  rfl

/-- Settles O37: the flags after CLRERR are the old ones and not the mask, bit for bit. -/
theorem clrerrClearsTheMaskedFlags : Obligations.ClrerrClearsTheMaskedFlags := fun mask s =>
  ⟨clearFlags mask s.errFlags, exec_clrerr mask s, clearFlags_getLsbD mask s.errFlags⟩

/-- Settles O35: both frames left open are the free value of the cycle, as RESET is idempotent there. -/
theorem resetRestoresEveryElement : Obligations.ResetRestoresEveryElement := by
  intro s
  refine ⟨Config.freeFrame s.freeCnt, resetAll Config.cfg s, exec_reset s, ⟨Config.freeFrame s.freeCnt, ?_⟩, rfl⟩
  rw [exec_reset, resetAll_resetAll]
  rfl

end Sys2Proof.SystemProofs

namespace Sys2Proof.ExceptionProofs

open Machine Safety StateProofs MemoryProofs EncodingProofs SchedulerProofs

/-! The step of an idle CORE (R227, entry 3). -/

theorem step_of_no_events {s : State} (hev : s.events = []) : step s = exec .clk (startCycle [] s) := by
  simp only [step, hev]

/-- Settles O6: `startCycle` with no record to come is the update stated. -/
theorem stepWithNothingPresentedIsOneClock : Obligations.StepWithNothingPresentedIsOneClock :=
  fun _ hev => step_of_no_events hev

/-! Where an operation stops (R207): TXB and SCHED have the conditions of `Enabled`, an outbound frame event one of its
own, and every other operation goes on from every state. -/

theorem isFrameEvent_of_outbound {i : Instr} (h : outbound i = true) : ∃ f, IsFrameEvent .outbound i f := by
  cases i with
  | cmd way c cs p => cases way <;> cases h; exact ⟨_, .cmd .outbound c cs p⟩
  | cmdVelocity way cs w => cases way <;> cases h; exact ⟨_, .cmdVelocity .outbound cs w⟩
  | cmdAngle way cs w => cases way <;> cases h; exact ⟨_, .cmdAngle .outbound cs w⟩
  | cmdRotate way cs mode => cases way <;> cases h; exact ⟨_, .cmdRotate .outbound cs mode⟩
  | _ => cases h

theorem exec_of_isFrameEvent {way : Way} {i : Instr} {f : Frame} (h : IsFrameEvent way i f) (s : State) :
    exec i s = wireFrame way f s := by
  cases h <;> rfl

/-- The transmitter is idle and the next frame is the one whose outbound record is the operation's (R132, R157). -/
def CanSendFrame (s : State) (i : Instr) : Prop :=
  s.txIdx = 12 ∧ ∃ f, nextFrame s = some f ∧ encode i = 0x40 :: f.toList

theorem canSendFrame_iff {i : Instr} {f : Frame} (h : IsFrameEvent .outbound i f) (s : State) :
    CanSendFrame s i ↔ s.txIdx = 12 ∧ nextFrame s = some f := by
  have hrecord : encode i = 0x40 :: f.toList := h.encode_eq
  refine and_congr_right fun _ => ⟨?_, fun hf => ⟨f, hf, hrecord⟩⟩
  rintro ⟨g, hg, hi⟩
  have hbytes : f.toList = g.toList := List.tail_eq_of_cons_eq (hrecord.symm.trans hi)
  rwa [Vector.toList_inj.mp hbytes]

/-- The enabling condition of an operation, of its own kind. -/
def MayOccur (s : State) (i : Instr) : Prop := Enabled s i ∧ (outbound i = true → CanSendFrame s i)

/-- The fault that names an operation which is not enabled (entry 12). -/
def FaultOf (i : Instr) (why : Fault) : Prop :=
  (why = .txbNotEnabled ∧ i = .txb) ∨ (why = .schedNotEnabled ∧ i = .sched) ∨
    (why = .frameNotNext ∧ outbound i = true)

/-- An operation goes on where it may occur, and otherwise answers its fault. -/
def GoesOnIfEnabled (i : Instr) (s : State) : Prop :=
  (MayOccur s i ∧ ∃ t, exec i s = .next t) ∨ (¬ MayOccur s i ∧ ∃ why, exec i s = .fault why ∧ FaultOf i why)

theorem goesOnIfEnabled_txb (s : State) : GoesOnIfEnabled .txb s := by
  by_cases h : s.txIdx < 12
  · exact .inl ⟨⟨⟨fun _ => h, nofun⟩, nofun⟩, _, exec_txb_of_lt h⟩
  · exact .inr ⟨fun ⟨⟨hlt, _⟩, _⟩ => h (hlt rfl), _, exec_txb_of_not_lt h, .inl ⟨rfl, rfl⟩⟩

theorem goesOnIfEnabled_sched (s : State) : GoesOnIfEnabled .sched s := by
  rcases schedule_cases s with ⟨hpend, hidle, he⟩ | ⟨hdis, he⟩
  · exact .inl ⟨⟨⟨nofun, fun _ => ⟨hpend, hidle⟩⟩, nofun⟩, _, he⟩
  · refine .inr ⟨fun ⟨⟨_, hready⟩, _⟩ => ?_, _, he, .inr (.inl ⟨rfl, rfl⟩)⟩
    obtain ⟨hpend, hidle⟩ := hready rfl
    simp [hpend, hidle] at hdis

theorem isGuarded_of_outbound {i : Instr} (h : outbound i = true) : isGuarded i = false := by
  cases i with
  | txb | sched => cases h
  | _ => rfl

theorem goesOnIfEnabled_of_outbound {i : Instr} (hout : outbound i = true) (s : State) : GoesOnIfEnabled i s := by
  obtain ⟨f, hf⟩ := isFrameEvent_of_outbound hout
  have hfree := enabled_of_unguarded s (isGuarded_of_outbound hout)
  have hsend := canSendFrame_iff hf s
  rw [GoesOnIfEnabled, exec_of_isFrameEvent hf]
  rcases wireFrame_cases .outbound f s with ⟨hway, _⟩ | ⟨_, hidle, hnext, he⟩ | ⟨_, hdis, he⟩
  · cases hway
  · exact .inl ⟨⟨hfree, fun _ => hsend.mpr ⟨hidle, hnext⟩⟩, _, he⟩
  · refine .inr ⟨fun ⟨_, hcan⟩ => ?_, _, he, .inr (.inr ⟨rfl, hout⟩)⟩
    obtain ⟨hidle, hnext⟩ := hsend.mp (hcan hout)
    exact hdis.elim (absurd hidle) (absurd hnext)

theorem goesOnIfEnabled_of_unconditional {i : Instr} (hg : isGuarded i = false) (hout : outbound i = false)
    (s : State) : GoesOnIfEnabled i s := by
  refine .inl ⟨⟨enabled_of_unguarded s hg, fun h => by simp [hout] at h⟩, ?_⟩
  cases i with
  | txb | sched => cases hg
  | cmd way | cmdVelocity way | cmdAngle way | cmdRotate way => cases way <;> cases hout; exact ⟨_, rfl⟩
  | _ => exact ⟨_, rfl⟩

theorem exec_goesOnIfEnabled (i : Instr) (s : State) : GoesOnIfEnabled i s := by
  cases hout : outbound i with
  | true => exact goesOnIfEnabled_of_outbound hout s
  | false =>
    cases hg : isGuarded i with
    | false => exact goesOnIfEnabled_of_unconditional hg hout s
    | true =>
      cases i with
      | txb => exact goesOnIfEnabled_txb s
      | sched => exact goesOnIfEnabled_sched s
      | _ => cases hg

/-- Settles O45: an operation goes on where its condition holds and otherwise answers its own fault. -/
theorem onlyDisabledOperationsStop : Obligations.OnlyDisabledOperationsStop := by
  intro i s
  have hmay : MayOccur s i ↔ (i = .txb → s.txIdx < 12) ∧ (i = .sched → s.tickPend = true ∧ s.txIdx = 12) ∧
      (outbound i = true → CanSendFrame s i) := and_assoc
  refine ⟨Iff.trans ?_ hmay, ?_⟩ <;>
    rcases exec_goesOnIfEnabled i s with ⟨hen, t, he⟩ | ⟨hdis, why, he, hfault⟩ <;> rw [he]
  · exact iff_of_true ⟨t, rfl⟩ hen
  · exact iff_of_false nofun hdis
  · exact ⟨nofun, nofun⟩
  · refine ⟨nofun, fun why' hwhy => ?_⟩
    cases hwhy
    exact hfault

/-! The errors an operation raises (R200, R201, R210). -/

/-- `diag_out` stays, or gains one event of the given kinds, whose flag is then set. -/
def RaisesAtMostOne (kinds : Diag → Prop) (s t : State) : Prop :=
  t.diagOut = s.diagOut ∨ ∃ e, t.diagOut = s.diagOut ++ [e] ∧ t.errFlags.getLsbD (flagBit e) = true ∧ kinds e

/-- The errors of the synchronizer (R173, R174). -/
def IsReceiveError (e : Diag) : Prop := e = .checksumMismatch ∨ e = .framingDesync

theorem raise_sets_flag (e : Diag) (s : State) : (raise e s).errFlags.getLsbD (flagBit e) = true := by
  rw [raise_errFlags, setFlag_getLsbD, decide_eq_true rfl, Bool.or_true]

theorem isReceiveError_frameErrorDiag (e : FrameError) : IsReceiveError (frameErrorDiag e) := by
  cases e with
  | checksumMismatch => exact .inl rfl
  | framingDesync => exact .inr rfl

theorem enqueue_raises (c : Cfg) (t : Tier) (f : Frame) (s : State) :
    RaisesAtMostOne (· = .queueOverflow t) s (enqueue c t f s) := by
  rcases enqueue_cases c t f s with ⟨_, he⟩ | ⟨_, he⟩ <;> rw [he]
  · exact .inl (setQ_diagOut s t _)
  · exact .inr ⟨.queueOverflow t, by rw [raise_diagOut, setQ_diagOut], raise_sets_flag _ _, rfl⟩

theorem receiveByte_raises (b : Byte) (s : State) : RaisesAtMostOne IsReceiveError s (receiveByte b s) := by
  rcases receiveByte_cases b s with ⟨_, _, he⟩ | ⟨_, _, he⟩ | ⟨_, _, _, he⟩ | ⟨_, h12, he⟩ | ⟨_, _, _, he⟩ <;>
    rw [he]
  case inr.inr.inl => exact .inr ⟨.framingDesync, rfl, raise_sets_flag _ _, .inr rfl⟩
  case inr.inr.inr.inl =>
    rcases rxVerdict_cases (frameDecode (Frame.ofList (s.rxBuf ++ [b]) h12)) s with ⟨n, _, hv⟩ | ⟨e, _, hv⟩ <;>
      rw [hv]
    · exact .inl rfl
    · exact .inr ⟨frameErrorDiag e, rfl, raise_sets_flag _ s, isReceiveError_frameErrorDiag e⟩
  all_goals exact .inl rfl

/-- What an operation that goes on can do to `diag_out`: only a SUBMIT, an RXB and an inbound frame write it. -/
theorem exec_next_errors {i : Instr} {s t : State} (h : exec i s = .next t) :
    (∃ u f, submission i = some (u, f) ∧ RaisesAtMostOne (· = .queueOverflow u) s t) ∨
    (isRxb i = true ∧ RaisesAtMostOne IsReceiveError s t) ∨
    (inbound i = true ∧ ∃ f : Frame, t = receiveBytes f.toList s) ∨ t.diagOut = s.diagOut := by
  rcases exec_next_cases i s t h with ⟨u, f, hi, rfl⟩ | ⟨_, rfl⟩ | ⟨m, _, rfl⟩ | ⟨b, rfl, rfl⟩ | ⟨_, rfl⟩ |
    ⟨_, hlt, rfl⟩ | ⟨_, rfl⟩ | ⟨_, rfl⟩ | ⟨_, _, _, rfl⟩ | hin | ⟨_, f, hidle, hf, rfl⟩
  · exact .inl ⟨u, f, hi, enqueue_raises _ u f s⟩
  · exact .inr (.inr (.inr rfl))
  · exact .inr (.inr (.inr rfl))
  · exact .inr (.inl ⟨rfl, receiveByte_raises b s⟩)
  · exact .inr (.inr (.inr rfl))
  · exact .inr (.inr (.inr rfl))
  · obtain ⟨n, p, he⟩ := clockTimer_eq Config.cfg s
    exact .inr (.inr (.inr (by rw [he])))
  · exact .inr (.inr (.inr rfl))
  · exact .inr (.inr (.inr (serviceTick_frame s).diagOut))
  · exact .inr (.inr (.inl hin))
  · exact .inr (.inr (.inr (by rw [tickSend_eq_afterSend hidle hf]; rfl)))

theorem RaisesAtMostOne.mono {kinds kinds' : Diag → Prop} {s t : State} (h : RaisesAtMostOne kinds s t)
    (hk : ∀ e, kinds e → kinds' e) : RaisesAtMostOne kinds' s t := by
  rcases h with hsame | ⟨e, hout, hflag, he⟩
  · exact .inl hsame
  · exact .inr ⟨e, hout, hflag, hk e he⟩

/-- Settles O46: of the writers of `diag_out` only the inbound frame is an event of several cycles. -/
theorem oneOperationRaisesAtMostOneError : Obligations.OneOperationRaisesAtMostOneError := by
  intro i s t hi h
  rcases exec_next_errors h with ⟨u, f, hsub, hr⟩ | ⟨hrxb, hr⟩ | ⟨hin, _⟩ | hsame
  · exact hr.mono fun e he => .inr ⟨u, f, hsub, he⟩
  · exact hr.mono fun e he => .inl ⟨hrxb, he⟩
  · simp [singleCycle, hin] at hi
  · exact .inl hsame

/-! The two errors of the adapter (R205, R206), which no operation of CORE raises. -/

/-- A list of events without the adapter's errors. -/
def NoAdapterErrors (l : List Diag) : Prop := Diag.portOpenFailure ∉ l ∧ Diag.partialWrite ∉ l

theorem noAdapterErrors_append_singleton {l : List Diag} {e : Diag} (hl : NoAdapterErrors l)
    (hopen : e ≠ .portOpenFailure) (hwrite : e ≠ .partialWrite) : NoAdapterErrors (l ++ [e]) := by
  obtain ⟨hnoOpen, hnoWrite⟩ := hl
  simp [NoAdapterErrors, hnoOpen, hnoWrite, hopen.symm, hwrite.symm]

theorem RaisesAtMostOne.noAdapterErrors {kinds : Diag → Prop} {s t : State} (h : RaisesAtMostOne kinds s t)
    (hk : ∀ e, kinds e → e ≠ .portOpenFailure ∧ e ≠ .partialWrite) (hs : NoAdapterErrors s.diagOut) :
    NoAdapterErrors t.diagOut := by
  rcases h with hsame | ⟨e, hout, _, he⟩
  · rwa [hsame]
  · obtain ⟨hopen, hwrite⟩ := hk e he
    rw [hout]
    exact noAdapterErrors_append_singleton hs hopen hwrite

theorem IsReceiveError.not_adapter {e : Diag} (h : IsReceiveError e) : e ≠ .portOpenFailure ∧ e ≠ .partialWrite := by
  rcases h with rfl | rfl <;> decide

theorem receiveBytes_noAdapterErrors (bs : List Byte) {s : State} (hs : NoAdapterErrors s.diagOut) :
    NoAdapterErrors (receiveBytes bs s).diagOut := by
  induction bs generalizing s with
  | nil => exact hs
  | cons b bs ih => exact ih ((receiveByte_raises b (pulsesLow s)).noAdapterErrors (fun _ => IsReceiveError.not_adapter) hs)

theorem exec_noAdapterErrors {i : Instr} {s t : State} (hs : NoAdapterErrors s.diagOut) (h : exec i s = .next t) :
    NoAdapterErrors t.diagOut := by
  rcases exec_next_errors h with ⟨u, f, _, hr⟩ | ⟨_, hr⟩ | ⟨_, f, rfl⟩ | hsame
  · exact hr.noAdapterErrors (by rintro _ rfl; exact ⟨nofun, nofun⟩) hs
  · exact hr.noAdapterErrors (fun _ => IsReceiveError.not_adapter) hs
  · exact receiveBytes_noAdapterErrors f.toList hs
  · rwa [hsame]

/-- Settles O47: the cycle boundary keeps `diag_out`, and the operation after it adds only CORE's own errors. -/
theorem adapterErrorsAreNeverRaised : Obligations.AdapterErrorsAreNeverRaised := by
  intro s t hs hstep
  obtain ⟨i, es, he⟩ := step_next_cases hstep
  exact exec_noAdapterErrors (s := startCycle es s) hs he

end Sys2Proof.ExceptionProofs

namespace Sys2Proof.HazardProofs

open Machine Safety SchedulerProofs ReceiverProofs
open Host (Outcome)

/-! An echoed command (R249): its wrong marker ends the frame at the third byte, and what follows is garbage to an idle
receiver. -/

/-- The wire order of a command frame: its three header bytes, then the checksum and the payload (R76). -/
theorem cmdFrame_toList (c cs : Byte) (p : Payload) :
    (cmdFrame c cs p).toList = [Config.sync, Config.classCmd, c] ++ cs :: p.toList := by
  conv_rhs => rw [payload_eta p]
  rfl

/-- The state with the receiver in Syncing and the given bytes buffered. -/
def syncingWith (buf : List Byte) (s : State) : State := { s with rxState := .syncing, rxBuf := buf }

theorem pulsesLow_syncingWith (buf : List Byte) (s : State) :
    pulsesLow (syncingWith buf s) = syncingWith buf (pulsesLow s) := rfl

/-- The bytes up to a wrong marker, received from Idle, leave one FramingDesync (R171 to R173). -/
theorem receiveBytes_wrong_header {c : Byte} {s : State} (b : Byte) (hidle : s.rxState = .idle) (hbuf : s.rxBuf = [])
    (hc : c ≠ Config.rxMark) :
    receiveBytes [Config.sync, b, c] s = raise .framingDesync (pulsesLow s) := by
  have hfirst : receiveByte Config.sync (pulsesLow s) = syncingWith [Config.sync] (pulsesLow s) :=
    receiveByte_idle_sync hidle
  have hsecond : receiveByte b (syncingWith [Config.sync] (pulsesLow s)) =
      syncingWith [Config.sync, b] (pulsesLow s) := receiveByte_append rfl nofun (show 1 ≠ 11 by decide)
  have hthird : receiveByte c (syncingWith [Config.sync, b] (pulsesLow s)) =
      raise .framingDesync (rxToIdle (pulsesLow s)) := receiveByte_wrong_marker rfl rfl hc
  have hsame : rxToIdle (pulsesLow s) = pulsesLow s := rxToIdle_of_idle hidle hbuf
  simp only [receiveBytes_cons, receiveBytes_nil, pulsesLow_syncingWith, pulsesLow_idem, hfirst, hsecond, hthird, hsame]

/-- One or more bytes without a sync byte only end the pulses of an idle receiver (R171). -/
theorem receiveBytes_garbage {b : Byte} {bs : List Byte} {s : State} (hidle : s.rxState = .idle)
    (hbs : Config.sync ∉ b :: bs) : receiveBytes (b :: bs) s = pulsesLow s := by
  induction bs generalizing b s with
  | nil => exact receiveByte_idle_other hidle (List.ne_of_not_mem_cons hbs).symm
  | cons c bs ih =>
    obtain ⟨hb, hrest⟩ := List.ne_and_not_mem_of_not_mem_cons hbs
    rw [receiveBytes_cons, receiveByte_idle_other (s := pulsesLow s) hidle hb.symm]
    exact ih hidle hrest

/-- A command frame whose id is not the telemetry marker, with no sync byte after the id, is rejected as a whole. -/
theorem wireFrame_inbound_cmdFrame {c cs : Byte} {p : Payload} {s : State} (hidle : s.rxState = .idle)
    (hbuf : s.rxBuf = []) (hc : c ≠ Config.rxMark) (hcs : cs ≠ Config.sync) (hp : Config.sync ∉ p.toList) :
    wireFrame .inbound (cmdFrame c cs p) s = .next (afterDesync s) := by
  have hrest : Config.sync ∉ cs :: p.toList := List.not_mem_cons_of_ne_of_not_mem hcs.symm hp
  refine congrArg Outcome.next ?_
  calc receiveBytes (cmdFrame c cs p).toList s
      = receiveBytes (cs :: p.toList) (raise .framingDesync (pulsesLow s)) := by
        rw [cmdFrame_toList, receiveBytes_append, receiveBytes_wrong_header _ hidle hbuf hc]
    _ = pulsesLow (raise .framingDesync (pulsesLow s)) := receiveBytes_garbage hidle hrest
    _ = afterDesync s := by
        rw [raise_framingDesync]
        rfl

/-- The zeros after a binary32 pattern are no sync bytes (R77). -/
theorem sync_notMem_f32Payload {w : BitVec 32} (hw : Config.sync ∉ f32le w) : Config.sync ∉ (f32Payload w).toList := by
  have hbytes : (f32Payload w).toList = f32le w ++ [0, 0, 0, 0] := rfl
  rw [hbytes, List.mem_append, not_or]
  exact ⟨hw, by decide⟩

/-- The zeros after a mode byte are no sync bytes (R78). -/
theorem sync_notMem_modePayload {m : Byte} (hm : m ≠ Config.sync) : Config.sync ∉ (modePayload m).toList := by
  have hbytes : (modePayload m).toList = m :: [0, 0, 0, 0, 0, 0, 0] := rfl
  rw [hbytes]
  exact List.not_mem_cons_of_ne_of_not_mem hm.symm (by decide)

/-- Settles O33: each row is a command frame, and none of the three fixed ids is the telemetry marker. -/
theorem echoedCommandFrameIsRejected : Obligations.EchoedCommandFrameIsRejected := fun _ hidle hbuf =>
  ⟨fun _ _ _ hc hcs hp => wireFrame_inbound_cmdFrame hidle hbuf hc hcs hp,
    fun _ _ hcs hw => wireFrame_inbound_cmdFrame hidle hbuf (by decide) hcs (sync_notMem_f32Payload hw),
    fun _ _ hcs hw => wireFrame_inbound_cmdFrame hidle hbuf (by decide) hcs (sync_notMem_f32Payload hw),
    fun _ _ hcs hm => wireFrame_inbound_cmdFrame hidle hbuf (by decide) hcs (sync_notMem_modePayload hm)⟩

/-! An idle CORE (R227, R238). -/

/-- With empty tiers the service of a tick only consumes it, so the operations that can occur in an idle CORE write the
timer, the pending tick and the flags, and nothing else. -/
theorem exec_of_idle_core {i : Instr} {s t : State} (hq : Quiescent { s with tickPend := false })
    (hi : i = .clk ∨ i = .tick ∨ i = .sched ∨ i = .rxe ∨ isClrerr i = true) (h : exec i s = .next t) :
    ∃ n p fl, t = { s with tickCnt := n, tickPend := p, errFlags := fl } := by
  rcases hi with rfl | rfl | rfl | rfl | hclr
  · cases h
    obtain ⟨n, p, he⟩ := StateProofs.clockTimer_eq Config.cfg s
    exact ⟨n, p, s.errFlags, he⟩
  · cases h
    exact ⟨s.tickCnt, true, s.errFlags, rfl⟩
  · change schedule s = _ at h
    have hnone : servedTier s = none := servedTier_of_empty hq.high_empty hq.mid_empty hq.low_empty
    rcases schedule_cases s with ⟨_, _, he⟩ | ⟨_, he⟩ <;> rw [he] at h <;> cases h
    exact ⟨s.tickCnt, false, s.errFlags, serviceTick_of_none_served hnone⟩
  · cases h
    exact ⟨s.tickCnt, s.tickPend, s.errFlags, rfl⟩
  · cases i with
    | clrerr m =>
      cases h
      exact ⟨s.tickCnt, s.tickPend, clearFlags m s.errFlags, rfl⟩
    | _ => cases hclr

/-- Settles O49: the traces, and the elements that make CORE idle, are not among those written. -/
theorem idleCoreLeavesTheTracesAlone : Obligations.IdleCoreLeavesTheTracesAlone := by
  intro i s t hq hi h
  obtain ⟨n, p, fl, rfl⟩ := exec_of_idle_core hq hi h
  exact ⟨rfl, rfl, rfl, hq.high_empty, hq.mid_empty, hq.low_empty, hq.not_sending, rfl, hq.not_receiving⟩

end Sys2Proof.HazardProofs
